-- ==== Sys2Proof/Word.lean ====
section
/-! DEFINITION. The widths of the machine: every register is 64 bits wide, a byte is 8 bits (00_scope.md R5). -/

namespace Sys2Proof

/-- A byte of memory. -/
abbrev Byte := BitVec 8

/-- The value of a register or an address (00_scope.md R5). -/
abbrev Word := BitVec 64

end Sys2Proof
end

