-- ==== Sys2Proof/Config.lean ====
section
/-! DEFINITION. What an implementation fixes (00_scope.md R4) and the free values of the model.

The definitions with a body are the spec's default parameters (decision D21): `State.reset` starts from them, and the
machine reads them off the state (`cpuex2`, `params`), so that statements about every state cover every value. The opaque constants are free values: no
proof can see what they are. Each takes the number of steps made so far (`State.draws`), so that two executions need not
agree; the log entry that declares it is named in its docstring. -/

namespace Sys2Proof

/-- `IP_REL_BASE`: which address an instruction observes as the value of `ip`, that of the following instruction or its own
(10_state.md R26; log 10). -/
inductive IpBase
  | following
  | current
  deriving DecidableEq, Repr

/-- `MSR_MODEL`: register operands that name `msr0` to `msr6` are refused, or name plain registers whose writeback validation is
the implementation's (10_state.md R60; log 27). -/
inductive MsrModel
  | refuse
  | storage
  deriving DecidableEq, Repr

end Sys2Proof

namespace Sys2Proof.Config

/-- `cpuex2.PAS`, the physical address size code: 32-bit physical addresses (R4 default; log 4). -/
def pas : BitVec 3 := 0

/-- `cpuex2.VAS`, the largest legal `cr0.PTL` (R4 default; log 4). -/
def vas : BitVec 3 := 4

/-- `CPUID`, low half (R4 default; log 4). -/
def cpuIdLo : Word := 0

/-- `CPUID`, high half (R4 default; log 4). -/
def cpuIdHi : Word := 0

/-- `MSCPUEX` (R4 default; log 4). -/
def mscpuex : Word := 0

/-- `NCPU` (R4 default; log 7). -/
def ncpu : Nat := 1

/-- `BOOT_IMAGE`, the bytes from physical address 0 up: none (R4 "given per test"; log 5). -/
def bootImage : List Byte := []

/-- `IO_DEVICES`, as ranges (first address, length): none (R4 default; log 29). -/
def ioDevices : List (Nat × Nat) := []

/-- `IP_REL_BASE` (R4 default, decision D1; log 10). -/
def ipRelBase : IpBase := .following

/-- `MSR_MODEL` (R4 default, decision D19; log 27). -/
def msrModel : MsrModel := .refuse

/-- `MACHINE_INSN`, the machine-specific opcodes the machine provides: none (R4 default, decision D19; log 28). -/
def machineInsn : List (BitVec 12) := []

/-- `C` after a multiplication or division, `MULDIV_CV` (40 R240, decision D10; log 11). -/
opaque mulDivCarry : Nat → Bool

/-- `V` after a multiplication or division, `MULDIV_CV` (40 R240, decision D10; log 11). -/
opaque mulDivOverflow : Nat → Bool

/-- The result of a shift by more than the width (43 R322, U5; log 12). -/
opaque shiftResult : Nat → Word

/-- `C` after a shift by more than the width (43 R322, U5; log 12). -/
opaque shiftCarry : Nat → Bool

/-- `WCMPXCHG_FAIL`: whether `wcmpxchg` fails spuriously (45 R373, U7; log 13). -/
opaque spuriousFailure : Nat → Bool

/-- Whether `pop` into `r7` leaves the loaded value plus 8, as the pseudocode of 41 R277 does (U3; log 18). Default of a
parameter that the machine's state carries. -/
def popIntoSpAdds : Bool := true

/-- `fcode` after an exception that defines no value for it (60 R487, U25; log 14). -/
opaque freeFcode : Nat → Word

/-- `fcode` after a page fault that involves no address (48 R456, U21; log 15). -/
opaque faultAddress : Nat → Word

/-- `pref` of the fault record where no page entry is involved (20 R132; log 15, log 22). -/
opaque faultEntry : Nat → Word

/-- `plevel` of the fault record where no page entry is involved (20 R132; log 15, log 22). -/
opaque faultLevel : Nat → Byte

/-- `access_kind` of the fault record where no access is involved (20 R132; log 15). -/
opaque faultKind : Nat → Byte

/-- `status` of the fault record where no access is involved (20 R132; log 15). -/
opaque faultStatus : Nat → BitVec 16

/-- Whether a plain permission failure sets VALIDATION_ERROR in the fault record; "the spec sets none" (20 R132, U16;
log 21). Default of a parameter that the machine's state carries. -/
def permissionFailureSetsValidation : Bool := false

/-- Whether a page entry whose XMM differs from its XM faults, by virtual address and entry (20 R118, U15; log 20). -/
opaque xmmMismatchFaults : Nat → Word → Word → Bool

/-- Which of the allowed byte pairs a fetch takes, by address (20 R156, U8; log 23). -/
opaque staleUnit : Nat → Word → Nat

/-- Which of the values an entry held a walk uses, by virtual address and entry address (20 R138, D34; log 24). -/
opaque staleEntry : Nat → Word → Nat → Nat

/-- The words of the frame saved for ABRT, lowest address first (60 R505, U4; log 16). -/
opaque abortFrame : Nat → Nat → Word

/-- The registers a reset during operation leaves undefined, by register number (70 R542, U1; log 17). -/
opaque resetRegister : Nat → Nat → Word

/-- The undefined bits of a `mode` value loaded without a check (10 R42, U12; log 19). -/
opaque modeBits : Nat → Word

/-- What a read of a defined device yields where the spec states no value (60 R527, U19, U22; log 29). -/
opaque deviceRead : Nat → Word

/-- Whether the implementation's writeback validation of a machine-specific register rejects a value, by register number
(10 R60; log 27). -/
opaque msrRejects : Nat → Nat → Word → Bool

/-- What is machine specific in the CPUInfo registers of another CPU, by CPU and by register (60 R532; log 30). -/
opaque otherCpuInfo : Nat → Nat → Word

end Sys2Proof.Config
end

