-- ==== Sys2Proof/Syntax.lean ====
section
/-! DEFINITION. The abstract syntax of the Clever ISA: operands and one constructor of `Instr` per row of
spec/opcode_table.json (30_encoding.md R170 to R211). Every value of `Operand` stands for a valid operand control
structure; what an instruction forbids about its operands is checked when it executes (60_exceptions.md R494). -/

namespace Sys2Proof

/-- An operand or transfer size of `2^ss` bytes (30_encoding.md R180, R210). -/
inductive Size
  | b1 | b2 | b4 | b8
  deriving DecidableEq, Repr

/-- The number of bytes of a size. -/
def Size.bytes : Size → Nat
  | .b1 => 1 | .b2 => 2 | .b4 => 4 | .b8 => 8

/-- The number of bits of a size. -/
def Size.bits (z : Size) : Nat := 8 * z.bytes

/-- An immediate of 2, 4 or 8 bytes with its value; the 16-byte size is reserved (30_encoding.md R183, R201). -/
inductive SizedImm
  | i16 (v : BitVec 16)
  | i32 (v : BitVec 32)
  | i64 (v : BitVec 64)
  deriving DecidableEq, Repr

/-- The width of an immediate in bits. -/
def SizedImm.bits : SizedImm → Nat
  | .i16 _ => 16 | .i32 _ => 32 | .i64 _ => 64

/-- The number of bytes an immediate takes in the instruction. -/
def SizedImm.bytes : SizedImm → Nat
  | .i16 _ => 2 | .i32 _ => 4 | .i64 _ => 8

/-- An operand (30_encoding.md R178 to R183).
`reg z r` is form 00: register number `r`, size `z`.
`ind o sc k z base` is form 01: memory of size `z` at `base + (offset << sc)`, the offset being `o` itself when `k`, and
the general register numbered `o` otherwise.
`short rel i` is form 10 and `long rel i` is form 11 with `m = 0`: immediates, `ip`-relative when `rel`.
`memRef rel z i` is form 11 with `m = 1`: memory of size `z` at the address `i`, `ip`-relative when `rel`. -/
inductive Operand
  | reg (z : Size) (r : BitVec 8)
  | ind (o : BitVec 4) (sc : BitVec 3) (k : Bool) (z : Size) (base : BitVec 4)
  | short (rel : Bool) (i : BitVec 12)
  | long (rel : Bool) (i : SizedImm)
  | memRef (rel : Bool) (z : Size) (i : SizedImm)
  deriving DecidableEq, Repr

/-- The number of bytes an operand takes in the instruction (30_encoding.md R172). -/
def Operand.length : Operand → Nat
  | .reg _ _ => 2
  | .ind _ _ _ _ _ => 2
  | .short _ _ => 2
  | .long _ i => 2 + i.bytes
  | .memRef _ _ i => 2 + i.bytes

/-- The sixteen condition codes, in the order of their numbers (46_branches.md R392). -/
inductive Cond
  | p | c | v | z | lt | le | be | mi | pl | a | gt | ge | nz | nv | nc | np
  deriving DecidableEq, Repr

/-- The instructions, one constructor per row of spec/opcode_table.json, in the table's order. `l` is the lock bit and
`f` the no-flags bit of `h` (30_encoding.md R210), `r` the general register named in `h`, `h` a nibble that is not
examined, `w : BitVec 4` the branch weight hint (R215), `w : Bool` the wide bit of a division, `v` the push-mode bit,
`cc` a condition code, `d` the branch destination immediate, `a`, `b`, `c` the operands in encoding order.
The names of the rows of one mnemonic differ by `Abs` and `Rel` (the `r` bit of a branch) and by the immediate's bits. -/
inductive Instr
  | und000 (h : BitVec 4)
  | add (l : Bool) (f : Bool) (a : Operand) (b : Operand)
  | sub (l : Bool) (f : Bool) (a : Operand) (b : Operand)
  | and (l : Bool) (f : Bool) (a : Operand) (b : Operand)
  | or (l : Bool) (f : Bool) (a : Operand) (b : Operand)
  | xor (l : Bool) (f : Bool) (a : Operand) (b : Operand)
  | mul (sz : Size) (f : Bool)
  | div (sz : Size) (w : Bool) (f : Bool)
  | mov (a : Operand) (b : Operand)
  | lea (a : Operand) (b : Operand)
  | movTogpr (r : BitVec 4) (a : Operand)
  | movFromgpr (r : BitVec 4) (a : Operand)
  | leaTogpr (r : BitVec 4) (a : Operand)
  | nop
  | nop1 (a : Operand)
  | nop2 (a : Operand) (b : Operand)
  | nop3 (a : Operand) (b : Operand) (c : Operand)
  | push (a : Operand)
  | pop (a : Operand)
  | pushReg (r : BitVec 4)
  | popReg (r : BitVec 4)
  | stogpr (a : Operand)
  | stoar (a : Operand)
  | rstogpr (a : Operand)
  | rstoar (a : Operand)
  | pushgpr
  | pushar
  | popgpr
  | popar
  | movsx (f : Bool) (a : Operand) (b : Operand)
  | bswap (f : Bool) (a : Operand) (b : Operand)
  | lsh (l : Bool) (f : Bool) (a : Operand) (b : Operand)
  | rsh (l : Bool) (f : Bool) (a : Operand) (b : Operand)
  | arsh (l : Bool) (f : Bool) (a : Operand) (b : Operand)
  | lshc (l : Bool) (f : Bool) (a : Operand) (b : Operand)
  | rshc (l : Bool) (f : Bool) (a : Operand) (b : Operand)
  | lrot (l : Bool) (f : Bool) (a : Operand) (b : Operand)
  | rrot (l : Bool) (f : Bool) (a : Operand) (b : Operand)
  | lshGpr (r : BitVec 4) (a : Operand)
  | rshGpr (r : BitVec 4) (a : Operand)
  | arshGpr (r : BitVec 4) (a : Operand)
  | lshcGpr (r : BitVec 4) (a : Operand)
  | rshcGpr (r : BitVec 4) (a : Operand)
  | lrotGpr (r : BitVec 4) (a : Operand)
  | rrotGpr (r : BitVec 4) (a : Operand)
  | imul (sz : Size) (f : Bool)
  | addTogpr (r : BitVec 4) (a : Operand)
  | subTogpr (r : BitVec 4) (a : Operand)
  | andTogpr (r : BitVec 4) (a : Operand)
  | orTogpr (r : BitVec 4) (a : Operand)
  | xorTogpr (r : BitVec 4) (a : Operand)
  | bnot (l : Bool) (f : Bool) (a : Operand)
  | neg (l : Bool) (f : Bool) (a : Operand)
  | idiv (sz : Size) (w : Bool) (f : Bool)
  | addFromgpr (r : BitVec 4) (a : Operand)
  | subFromgpr (r : BitVec 4) (a : Operand)
  | andFromgpr (r : BitVec 4) (a : Operand)
  | orFromgpr (r : BitVec 4) (a : Operand)
  | xorFromgpr (r : BitVec 4) (a : Operand)
  | bnotGpr (r : BitVec 4)
  | negGpr (r : BitVec 4)
  | cmovt (cc : Cond) (a : Operand) (b : Operand) (c : Operand)
  | cmov (cc : Cond) (a : Operand) (b : Operand)
  | cmp (a : Operand) (b : Operand)
  | test (a : Operand) (b : Operand)
  | cmpGpr (r : BitVec 4) (a : Operand)
  | testGpr (r : BitVec 4) (a : Operand)
  | xchg (a : Operand) (b : Operand)
  | cmpxchg (a : Operand) (b : Operand) (c : Operand)
  | wcmpxchg (a : Operand) (b : Operand) (c : Operand)
  | fence
  | jpAbs16 (w : BitVec 4) (d : BitVec 16)
  | jcAbs16 (w : BitVec 4) (d : BitVec 16)
  | jvAbs16 (w : BitVec 4) (d : BitVec 16)
  | jzAbs16 (w : BitVec 4) (d : BitVec 16)
  | jltAbs16 (w : BitVec 4) (d : BitVec 16)
  | jleAbs16 (w : BitVec 4) (d : BitVec 16)
  | jbeAbs16 (w : BitVec 4) (d : BitVec 16)
  | jmiAbs16 (w : BitVec 4) (d : BitVec 16)
  | jplAbs16 (w : BitVec 4) (d : BitVec 16)
  | jaAbs16 (w : BitVec 4) (d : BitVec 16)
  | jgtAbs16 (w : BitVec 4) (d : BitVec 16)
  | jgeAbs16 (w : BitVec 4) (d : BitVec 16)
  | jnzAbs16 (w : BitVec 4) (d : BitVec 16)
  | jnvAbs16 (w : BitVec 4) (d : BitVec 16)
  | jncAbs16 (w : BitVec 4) (d : BitVec 16)
  | jnpAbs16 (w : BitVec 4) (d : BitVec 16)
  | jpRel16 (w : BitVec 4) (d : BitVec 16)
  | jcRel16 (w : BitVec 4) (d : BitVec 16)
  | jvRel16 (w : BitVec 4) (d : BitVec 16)
  | jzRel16 (w : BitVec 4) (d : BitVec 16)
  | jltRel16 (w : BitVec 4) (d : BitVec 16)
  | jleRel16 (w : BitVec 4) (d : BitVec 16)
  | jbeRel16 (w : BitVec 4) (d : BitVec 16)
  | jmiRel16 (w : BitVec 4) (d : BitVec 16)
  | jplRel16 (w : BitVec 4) (d : BitVec 16)
  | jaRel16 (w : BitVec 4) (d : BitVec 16)
  | jgtRel16 (w : BitVec 4) (d : BitVec 16)
  | jgeRel16 (w : BitVec 4) (d : BitVec 16)
  | jnzRel16 (w : BitVec 4) (d : BitVec 16)
  | jnvRel16 (w : BitVec 4) (d : BitVec 16)
  | jncRel16 (w : BitVec 4) (d : BitVec 16)
  | jnpRel16 (w : BitVec 4) (d : BitVec 16)
  | jpAbs32 (w : BitVec 4) (d : BitVec 32)
  | jcAbs32 (w : BitVec 4) (d : BitVec 32)
  | jvAbs32 (w : BitVec 4) (d : BitVec 32)
  | jzAbs32 (w : BitVec 4) (d : BitVec 32)
  | jltAbs32 (w : BitVec 4) (d : BitVec 32)
  | jleAbs32 (w : BitVec 4) (d : BitVec 32)
  | jbeAbs32 (w : BitVec 4) (d : BitVec 32)
  | jmiAbs32 (w : BitVec 4) (d : BitVec 32)
  | jplAbs32 (w : BitVec 4) (d : BitVec 32)
  | jaAbs32 (w : BitVec 4) (d : BitVec 32)
  | jgtAbs32 (w : BitVec 4) (d : BitVec 32)
  | jgeAbs32 (w : BitVec 4) (d : BitVec 32)
  | jnzAbs32 (w : BitVec 4) (d : BitVec 32)
  | jnvAbs32 (w : BitVec 4) (d : BitVec 32)
  | jncAbs32 (w : BitVec 4) (d : BitVec 32)
  | jnpAbs32 (w : BitVec 4) (d : BitVec 32)
  | jpRel32 (w : BitVec 4) (d : BitVec 32)
  | jcRel32 (w : BitVec 4) (d : BitVec 32)
  | jvRel32 (w : BitVec 4) (d : BitVec 32)
  | jzRel32 (w : BitVec 4) (d : BitVec 32)
  | jltRel32 (w : BitVec 4) (d : BitVec 32)
  | jleRel32 (w : BitVec 4) (d : BitVec 32)
  | jbeRel32 (w : BitVec 4) (d : BitVec 32)
  | jmiRel32 (w : BitVec 4) (d : BitVec 32)
  | jplRel32 (w : BitVec 4) (d : BitVec 32)
  | jaRel32 (w : BitVec 4) (d : BitVec 32)
  | jgtRel32 (w : BitVec 4) (d : BitVec 32)
  | jgeRel32 (w : BitVec 4) (d : BitVec 32)
  | jnzRel32 (w : BitVec 4) (d : BitVec 32)
  | jnvRel32 (w : BitVec 4) (d : BitVec 32)
  | jncRel32 (w : BitVec 4) (d : BitVec 32)
  | jnpRel32 (w : BitVec 4) (d : BitVec 32)
  | jpAbs64 (w : BitVec 4) (d : BitVec 64)
  | jcAbs64 (w : BitVec 4) (d : BitVec 64)
  | jvAbs64 (w : BitVec 4) (d : BitVec 64)
  | jzAbs64 (w : BitVec 4) (d : BitVec 64)
  | jltAbs64 (w : BitVec 4) (d : BitVec 64)
  | jleAbs64 (w : BitVec 4) (d : BitVec 64)
  | jbeAbs64 (w : BitVec 4) (d : BitVec 64)
  | jmiAbs64 (w : BitVec 4) (d : BitVec 64)
  | jplAbs64 (w : BitVec 4) (d : BitVec 64)
  | jaAbs64 (w : BitVec 4) (d : BitVec 64)
  | jgtAbs64 (w : BitVec 4) (d : BitVec 64)
  | jgeAbs64 (w : BitVec 4) (d : BitVec 64)
  | jnzAbs64 (w : BitVec 4) (d : BitVec 64)
  | jnvAbs64 (w : BitVec 4) (d : BitVec 64)
  | jncAbs64 (w : BitVec 4) (d : BitVec 64)
  | jnpAbs64 (w : BitVec 4) (d : BitVec 64)
  | jpRel64 (w : BitVec 4) (d : BitVec 64)
  | jcRel64 (w : BitVec 4) (d : BitVec 64)
  | jvRel64 (w : BitVec 4) (d : BitVec 64)
  | jzRel64 (w : BitVec 4) (d : BitVec 64)
  | jltRel64 (w : BitVec 4) (d : BitVec 64)
  | jleRel64 (w : BitVec 4) (d : BitVec 64)
  | jbeRel64 (w : BitVec 4) (d : BitVec 64)
  | jmiRel64 (w : BitVec 4) (d : BitVec 64)
  | jplRel64 (w : BitVec 4) (d : BitVec 64)
  | jaRel64 (w : BitVec 4) (d : BitVec 64)
  | jgtRel64 (w : BitVec 4) (d : BitVec 64)
  | jgeRel64 (w : BitVec 4) (d : BitVec 64)
  | jnzRel64 (w : BitVec 4) (d : BitVec 64)
  | jnvRel64 (w : BitVec 4) (d : BitVec 64)
  | jncRel64 (w : BitVec 4) (d : BitVec 64)
  | jnpRel64 (w : BitVec 4) (d : BitVec 64)
  | jmpAbs (d : SizedImm)
  | callAbs (d : SizedImm)
  | fcallAbs (d : SizedImm)
  | ret
  | scall
  | int (i : BitVec 4)
  | ijmpAbs (r : BitVec 4)
  | fretAbs
  | ifjmpAbs
  | icallAbs (r : BitVec 4)
  | ifcallAbs
  | jsmAbs (d : SizedImm)
  | callsmAbs (v : Bool) (d : SizedImm)
  | retrsm
  | jmpRel (d : SizedImm)
  | callRel (d : SizedImm)
  | fcallRel (d : SizedImm)
  | ijmpRel (r : BitVec 4)
  | fretRel
  | ifjmpRel
  | icallRel (r : BitVec 4)
  | ifcallRel
  | jsmRel (d : SizedImm)
  | callsmRel (v : Bool) (d : SizedImm)
  | halt
  | pcfl
  | flall
  | dflush (a : Operand)
  | iflush (a : Operand)
  | ioIn (sz : Size)
  | ioOut (sz : Size)
  | storegf (a : Operand)
  | rstregf (a : Operand)
  | scret
  | reti
  | machineFe0 (h : BitVec 4)
  | machineFe1 (h : BitVec 4)
  | machineFe2 (h : BitVec 4)
  | machineFe3 (h : BitVec 4)
  | machineFe4 (h : BitVec 4)
  | machineFe5 (h : BitVec 4)
  | machineFe6 (h : BitVec 4)
  | machineFe7 (h : BitVec 4)
  | machineFe8 (h : BitVec 4)
  | machineFe9 (h : BitVec 4)
  | machineFea (h : BitVec 4)
  | machineFeb (h : BitVec 4)
  | machineFec (h : BitVec 4)
  | machineFed (h : BitVec 4)
  | machineFee (h : BitVec 4)
  | machineFef (h : BitVec 4)
  | machineFf0 (h : BitVec 4)
  | machineFf1 (h : BitVec 4)
  | machineFf2 (h : BitVec 4)
  | machineFf3 (h : BitVec 4)
  | machineFf4 (h : BitVec 4)
  | machineFf5 (h : BitVec 4)
  | machineFf6 (h : BitVec 4)
  | machineFf7 (h : BitVec 4)
  | machineFf8 (h : BitVec 4)
  | machineFf9 (h : BitVec 4)
  | machineFfa (h : BitVec 4)
  | machineFfb (h : BitVec 4)
  | machineFfc (h : BitVec 4)
  | machineFfd (h : BitVec 4)
  | machineFfe (h : BitVec 4)
  | undFFF (h : BitVec 4)
  deriving DecidableEq, Repr

end Sys2Proof
end

