-- ==== Sys2Proof/Machine/State.lean ====
section
/-! DEFINITION. The state of one CPU with the memory and devices it can reach (10_state.md sections 1 to 7), the reasons a
step can stop, and the state after initialisation (10_state.md R65). -/

namespace Sys2Proof.Machine

/-- Physical memory: the bytes that are not 0, as (address, byte) pairs, addresses strictly rising. An address that is
not listed reads as 0 (10_state.md R65: "all other memory addressess shall be 0"). -/
abbrev Memory := List Host.Cell

/-- A store that some later fetch or page walk may still miss. `old`: the bytes it replaced, by physical address.
`visibleToAll`: it is Execution Visible to every later fetch. `visibleAt`: it is Execution Visible to every later fetch that
reads one of these addresses (20_memory.md R153, R156). -/
structure StoreRecord where
  old : List Host.Cell
  visibleToAll : Bool
  visibleAt : List Nat
  deriving DecidableEq, Repr

/-- The registers that select the mapping of virtual addresses: `cr0` (PG and PTL) and `cr1`. -/
structure PagingView where
  cr0 : Word
  page : Word
  deriving DecidableEq, Repr

/-- The synchronization operations of 20_memory.md R153. `dataFlushAll` is the flush that a change of `cr1` or `cr0.PG`
implies (10_state.md R46, R47). -/
inductive SyncOp
  | fence
  | globalFlush
  | dataFlush (bytes : List Nat)
  | dataFlushAll
  | execFlush (bytes : List Nat)
  | pageFlush
  | io
  deriving DecidableEq, Repr

/-- The parameters of the machine that no instruction changes (00_scope.md R4). `ncpu`: the number of CPUs. `unbacked`: the
physical ranges (first address, length) that are not ALLOCATABLE; the first 64 KiB always are (20_memory.md R87).
`ioDevices`: the ranges of I/O device addresses from 2^32 up at which a machine-specific device answers (20_memory.md R86; log 29).
`ipRelBase`, `msrModel`, `machineInsn`: see `IpBase`, `MsrModel` and 48_supervisor.md R451 (log 10, log 27, log 28).
`popIntoSpAdds`: `pop` into `r7` leaves the loaded value plus 8 (41 R277, U3; log 18). `permissionFailureSetsValidation`: a
plain permission failure sets VALIDATION_ERROR (20 R132, U16; log 21). -/
structure Params where
  ncpu : Nat
  unbacked : List (Nat × Nat)
  ioDevices : List (Nat × Nat)
  ipRelBase : IpBase
  msrModel : MsrModel
  machineInsn : List (BitVec 12)
  popIntoSpAdds : Bool
  permissionFailureSetsValidation : Bool
  deriving DecidableEq, Repr

/-- The machine. Each field cites the rule that gives it in INVENTORY.md. -/
structure State where
  /-- `r0` to `r15` (10_state.md R21). -/
  gpr : Vector Word 16
  /-- Register 16 (10_state.md R25). -/
  ip : Word
  /-- Register 17: C, Z, V, N, P are bits 0 to 4 (10_state.md R30). -/
  flags : Word
  /-- Register 18: XM is bit 32, XMM bit 33 (10_state.md R40). -/
  mode : Word
  /-- Register 128: PG bit 0, IE bit 1, PTL bits 3 to 5 (10_state.md R45). -/
  cr0 : Word
  /-- Register 129, `cr1` (10_state.md R47). -/
  page : Word
  /-- Register 130, `cr2` (10_state.md R48). -/
  flprotect : Word
  /-- Register 131, `cr3` (10_state.md R49). -/
  scdp : Word
  /-- Register 132, `cr4` (10_state.md R50). -/
  scsp : Word
  /-- Register 133, `cr5` (10_state.md R51). -/
  sccr : Word
  /-- Register 134, `cr6` (10_state.md R52). -/
  itabp : Word
  /-- Register 135, `cr7` (10_state.md R53). -/
  ciread : Word
  /-- Register 136 (10_state.md R54). -/
  cpuidlo : Word
  /-- Register 137 (10_state.md R54). -/
  cpuidhi : Word
  /-- Register 138: V bit 0, PAS bits 2 to 4, VAS bits 5 to 7 (10_state.md R55). -/
  cpuex2 : Word
  /-- Register 139 (10_state.md R56). -/
  cpuex3 : Word
  /-- Register 140 (10_state.md R56). -/
  cpuex4 : Word
  /-- Register 141 (10_state.md R56). -/
  cpuex5 : Word
  /-- Register 142 (10_state.md R56). -/
  cpuex6 : Word
  /-- Register 143 (10_state.md R56). -/
  mscpuex : Word
  /-- Register 144 (10_state.md R57). -/
  fcode : Word
  /-- Register 145 (10_state.md R58). -/
  pfcharp : Word
  /-- Registers 148 to 154, `msr0` to `msr6` (10_state.md R60; log 27). -/
  msr : Vector Word 7
  /-- Physical memory (20_memory.md R80). -/
  mem : Memory
  /-- The stores since the last taken branch, newest first: the execution-visible set of 10_state.md R70 is read off them
  (20_memory.md R156). -/
  recent : List StoreRecord
  /-- The bytes replaced by each store since the last page-cache flush, newest first, kept while paging is on
  (20_memory.md R138). -/
  ptHistory : List (List Host.Cell)
  /-- The mapping the running code was entered under, when `cr0.PG`, `cr0.PTL` or `cr1` changed since the last taken branch
  (70_reset_and_hazards.md R551). -/
  codeView : Option PagingView
  /-- This CPU's part of the Global Synchronization Order, newest first (20_memory.md R151). -/
  syncOrder : List SyncOp
  /-- Whether the CPU is halted (48_supervisor.md R454). -/
  halted : Bool
  /-- Pending interrupt requests; bit `k` is number `32 + k` (60_exceptions.md R510). -/
  pendingIrq : BitVec 32
  /-- Whether an NMI is pending (60_exceptions.md R513). -/
  pendingNmi : Bool
  /-- The number injected through the enable word and not yet taken, 0 for none (60_exceptions.md R528). -/
  injected : BitVec 6
  /-- Set by the delivery of an asynchronous event until the next instruction has run (60_exceptions.md R517). -/
  eventsHeld : Bool
  /-- The CPU Enable Control Words at I/O device addresses 0xff80 up (60_exceptions.md R528). -/
  enableWord : Vector Word 128
  /-- The register load pointers at I/O device addresses 0xff00 up (60_exceptions.md R529). -/
  loadPointer : Vector Word 128
  /-- The 256 register values each CPU was last enabled with, none for a CPU this one has not enabled
  (60_exceptions.md R530, R531; log 43). -/
  startUp : Vector (List Word) 128
  /-- The machine's parameters. -/
  params : Params
  /-- The MODEL's own field: the number of steps made, to which the free values are applied (log 34). -/
  draws : Nat
  deriving DecidableEq, Repr

/-- Why the machine stops. -/
inductive Fault
  /-- Raised by a step that would fetch code through a mapping that paging instructions or stores changed under the
  running code: "the behaviour is undefined" (70_reset_and_hazards.md R551). Safe: no behaviour is claimed. -/
  | pagingChangedUnderCode
  /-- Raised by `out` when it writes an enable word or load pointer in a way whose behaviour is undefined, or enables a CPU
  with an invalid start-up block (60_exceptions.md R528 to R530). Safe: no behaviour is claimed. -/
  | undefinedCpuControl
  deriving DecidableEq, Repr

/-- Why the model gives no next state. -/
inductive Refusal
  /-- Raised by `exec` for an instruction without a meaning. Safe: no behaviour is claimed. -/
  | notModelled (mnemonic : String)
  /-- Raised by an instruction that reads or writes `msr0` to `msr6` as a register operand where `MSR_MODEL` refuses it: no
  behaviour given (10_state.md R60). Safe: no behaviour is claimed. -/
  | machineSpecificRegister (number : Nat)
  /-- Raised in supervisor mode by a machine-specific opcode that the machine provides: its effect is the machine's
  (48_supervisor.md R451). Safe: no behaviour is claimed. -/
  | machineSpecificInstruction (opcode : Nat)
  /-- Raised by `out` when it enables a CPU whose start-up block has a reserved or cpuinfo slot that is not 0: UND is raised, but on
  which CPU is not stated (60_exceptions.md R530, U24). Safe: no behaviour is claimed. -/
  | startUpBlock (cpu : Nat)
  deriving DecidableEq, Repr

/-- The memory that holds `BOOT_IMAGE` from address 0, cut to the 64 KiB it may fill, and 0 everywhere else (10_state.md R65). -/
def imageMemory (image : List Byte) : Memory :=
  (image.take 0x10000).zipIdx.filterMap fun c => if c.1 = 0 then none else some (c.2, c.1)

/-- The machine right after initialisation with a boot image (10_state.md R65, 70_reset_and_hazards.md R541). The registers R65
leaves undefined are 0 here (log 1, log 2). -/
def State.initial (image : List Byte) : State where
  gpr := Vector.replicate 16 0
  ip := 0xff00
  flags := 0
  mode := 0
  cr0 := 0
  page := 0
  flprotect := 0
  scdp := 0
  scsp := 0
  sccr := 0
  itabp := 0
  ciread := 0
  cpuidlo := Config.cpuIdLo
  cpuidhi := Config.cpuIdHi
  cpuex2 := 1#64 ||| (Config.pas.setWidth 64 <<< 2) ||| (Config.vas.setWidth 64 <<< 5)
  cpuex3 := 0
  cpuex4 := 0
  cpuex5 := 0
  cpuex6 := 0
  mscpuex := Config.mscpuex
  fcode := 0
  pfcharp := 0
  msr := Vector.replicate 7 0
  mem := imageMemory image
  recent := []
  ptHistory := []
  codeView := none
  syncOrder := []
  halted := false
  pendingIrq := 0
  pendingNmi := false
  injected := 0
  eventsHeld := false
  enableWord := (Vector.replicate 128 0).set 0 3
  loadPointer := Vector.replicate 128 0
  startUp := Vector.replicate 128 []
  params :=
    { ncpu := Config.ncpu
      unbacked := []
      ioDevices := Config.ioDevices
      ipRelBase := Config.ipRelBase
      msrModel := Config.msrModel
      machineInsn := Config.machineInsn
      popIntoSpAdds := Config.popIntoSpAdds
      permissionFailureSetsValidation := Config.permissionFailureSetsValidation }
  draws := 0

/-- The machine right after initialisation; the boot image is placed from outside (log 5). -/
def State.reset : State := State.initial Config.bootImage

end Sys2Proof.Machine
end

