-- ==== Sys2Proof/Machine/Flags.lean ====
section
/-! DEFINITION. The flag computations (10_state.md R30 to R37, 43_convert_shift_unary.md R322) and the condition codes
(46_branches.md R392). A flags value is the 64-bit register; a helper changes the bits it names and keeps the others. -/

namespace Sys2Proof.Machine

/-- Bit numbers of the flags (10_state.md R30). -/
abbrev bitC : Nat := 0
/-- Zero. -/
abbrev bitZ : Nat := 1
/-- Overflow. -/
abbrev bitV : Nat := 2
/-- Negative. -/
abbrev bitN : Nat := 3
/-- Parity. -/
abbrev bitP : Nat := 4

/-- The defined bits of `flags` (10_state.md R31). -/
def flagsMask : Word := 0x1F

/-- `w` with bit `i` set to `b`. -/
def putBit (w : Word) (i : Nat) (b : Bool) : Word :=
  if b then w ||| (1#64 <<< i) else w &&& ~~~(1#64 <<< i)

/-- The low `n` bits of a word, zero-extended: `zext_64(trunc_n(v))` (00_scope.md R10). -/
def truncBits (n : Nat) (v : Word) : Word := BitVec.ofNat 64 (v.toNat % 2 ^ n)

/-- `SetZN(r, n)` (10_state.md R36). -/
def setZN (fl : Word) (r : Word) (n : Nat) : Word :=
  putBit (putBit fl bitZ (r == 0)) bitN (r.getLsbD (n - 1))

/-- Whether the low `n` bits of a word hold an odd number of ones (10_state.md R35). -/
def oddParity (r : Word) (n : Nat) : Bool :=
  (List.range n).foldl (fun p i => p != r.getLsbD i) false

/-- `SetP(r, n)` (10_state.md R36). -/
def setP (fl : Word) (r : Word) (n : Nat) : Word := putBit fl bitP (oddParity r n)

/-- C and V together. -/
def setCV (fl : Word) (c v : Bool) : Word := putBit (putBit fl bitC c) bitV v

/-- `AddFlags(A, B, n)` with the zero-extended operands (10_state.md R36). -/
def addFlags (fl A B : Word) (n : Nat) : Word :=
  let r := truncBits n (A + B)
  let c := decide (2 ^ n ≤ A.toNat + B.toNat)
  let v := A.getLsbD (n - 1) == B.getLsbD (n - 1) && r.getLsbD (n - 1) != A.getLsbD (n - 1)
  setZN (setCV fl c v) r n

/-- `SubFlags(A, B, n)` with the zero-extended operands (10_state.md R36). -/
def subFlags (fl A B : Word) (n : Nat) : Word :=
  let r := truncBits n (A - B)
  let c := decide (A.toNat < B.toNat)
  let v := A.getLsbD (n - 1) != B.getLsbD (n - 1) && r.getLsbD (n - 1) != A.getLsbD (n - 1)
  setZN (setCV fl c v) r n

/-- `LogicFlags(r, n)` (10_state.md R36). -/
def logicFlags (fl r : Word) (n : Nat) : Word := setZN (setCV fl false false) r n

/-- `Cond(cccc, t)` (46_branches.md R392). -/
def condHolds (cc : Cond) (t : Word) : Bool :=
  let c := t.getLsbD bitC
  let z := t.getLsbD bitZ
  let v := t.getLsbD bitV
  let n := t.getLsbD bitN
  let p := t.getLsbD bitP
  match cc with
  | .p => p
  | .c => c
  | .v => v
  | .z => z
  | .lt => n != v
  | .le => n != v || z
  | .be => c || z
  | .mi => n
  | .pl => !n
  | .a => !c && !z
  | .gt => n == v && !z
  | .ge => n == v
  | .nz => !z
  | .nv => !v
  | .nc => !c
  | .np => !p

end Sys2Proof.Machine
end

