-- ==== Sys2Proof/WellFormed.lean ====
section
/-! DEFINITION. Well-formed instructions: the terms that are the decoding of their own encoding. The field types
already rule out every reserved encoding; what remains is that an `ijmp` through register 14 or 15 is the row `fret` or
`ifjmp` of the table (46_branches.md R406, R407). -/

namespace Sys2Proof

/-- Whether an instruction is well formed: `ijmp` names neither `r14` (that is `fret`) nor `r15` (that is `ifjmp`). -/
def Instr.wellFormed : Instr → Bool
  | .ijmpAbs r => decide (r ≠ 14#4) && decide (r ≠ 15#4)
  | .ijmpRel r => decide (r ≠ 14#4) && decide (r ≠ 15#4)
  | _ => true

end Sys2Proof
end

