-- ==== Sys2Proof/Decode.lean ====
section
/-! DEFINITION. Bytes to instructions and back (30_encoding.md). `decode` is total on any bytes and rejects by name;
`encode` is written from the same tables. `decodeTableWord` reads a word numbered as spec/opcode_table.json numbers it. -/

namespace Sys2Proof

/-- Why bytes are no instruction. `truncated`: the bytes end before the instruction does (the step turns it into the page
fault of the fetch that failed, 60_exceptions.md R492). The others raise UND. -/
inductive DecodeError
  | undefinedOpcode
  | reservedH
  | malformedOperand
  | truncated
  deriving DecidableEq, Repr

/-- Bits `lo + len - 1` to `lo` of a word. -/
abbrev field {n : Nat} (w : BitVec n) (lo len : Nat) : BitVec len := w.extractLsb' lo len

/-- A 16-bit unit as its bytes, most significant first (30_encoding.md R171, R178). -/
def unitBytes (w : BitVec 16) : List Byte := [field w 8 8, field w 0 8]

/-- The two-bit code of a size (30_encoding.md R180). -/
def Size.code : Size → BitVec 2
  | .b1 => 0 | .b2 => 1 | .b4 => 2 | .b8 => 3

/-- The size of a two-bit code; all four are valid (30_encoding.md R186). -/
def Size.ofCode (c : BitVec 2) : Size :=
  match c.toNat with
  | 0 => .b1
  | 1 => .b2
  | 2 => .b4
  | _ => .b8

/-- The two-bit size code of an immediate (30_encoding.md R183). -/
def SizedImm.code : SizedImm → BitVec 2
  | .i16 _ => 0 | .i32 _ => 1 | .i64 _ => 2

/-- An immediate as its bytes, least significant first (20_memory.md R82). -/
def SizedImm.toBytes : SizedImm → List Byte
  | .i16 v => [field v 0 8, field v 8 8]
  | .i32 v => [field v 0 8, field v 8 8, field v 16 8, field v 24 8]
  | .i64 v => [field v 0 8, field v 8 8, field v 16 8, field v 24 8, field v 32 8, field v 40 8, field v 48 8, field v 56 8]

/-- The four-bit number of a condition code (46_branches.md R392). -/
def Cond.code : Cond → BitVec 4
  | .p => 0 | .c => 1 | .v => 2 | .z => 3 | .lt => 4 | .le => 5 | .be => 6 | .mi => 7 | .pl => 8 | .a => 9 | .gt => 10 | .ge => 11 | .nz => 12 | .nv => 13 | .nc => 14 | .np => 15

/-- The condition code of a number. -/
def Cond.ofCode (c : BitVec 4) : Cond :=
  match c.toNat with
  | 0 => .p
  | 1 => .c
  | 2 => .v
  | 3 => .z
  | 4 => .lt
  | 5 => .le
  | 6 => .be
  | 7 => .mi
  | 8 => .pl
  | 9 => .a
  | 10 => .gt
  | 11 => .ge
  | 12 => .nz
  | 13 => .nv
  | 14 => .nc
  | _ => .np

/-! ### Decoding -/

/-- An immediate of the size `ss` names, off the front of the bytes; `ss = 3` is reserved (30_encoding.md R183). -/
def takeImm (ss : BitVec 2) (bs : List Byte) : Except DecodeError (SizedImm × List Byte) :=
  match ss.toNat, bs with
  | 0, b0 :: b1 :: rest => .ok (.i16 (b1 ++ b0), rest)
  | 1, b0 :: b1 :: b2 :: b3 :: rest => .ok (.i32 (b3 ++ b2 ++ b1 ++ b0), rest)
  | 2, b0 :: b1 :: b2 :: b3 :: b4 :: b5 :: b6 :: b7 :: rest =>
    .ok (.i64 (b7 ++ b6 ++ b5 ++ b4 ++ b3 ++ b2 ++ b1 ++ b0), rest)
  | 3, _ => .error .malformedOperand
  | _, _ => .error .truncated

/-- A Long Imm control structure with its immediate (30_encoding.md R183, R185): the reserved bits, `ss = 3`, and `zz`
where `m = 0`, are checked before the immediate is fetched. -/
def takeLong (c : BitVec 16) (bs : List Byte) : Except DecodeError (Operand × List Byte) :=
  if field c 11 2 = 0 ∧ field c 6 2 = 0 ∧ field c 0 4 = 0 ∧ (c.getLsbD 13 ∨ field c 4 2 = 0) then do
    let (i, rest) ← takeImm (field c 8 2) bs
    if c.getLsbD 13 then .ok (.memRef (c.getLsbD 10) (Size.ofCode (field c 4 2)) i, rest)
    else .ok (.long (c.getLsbD 10) i, rest)
  else .error .malformedOperand

/-- One operand off the front of the bytes (30_encoding.md R178 to R185). -/
def takeOperand : List Byte → Except DecodeError (Operand × List Byte)
  | b0 :: b1 :: rest =>
    let c : BitVec 16 := b0 ++ b1
    match (field c 14 2).toNat with
    | 0 => if field c 10 4 = 0 then .ok (.reg (Size.ofCode (field c 8 2)) (field c 0 8), rest)
      else .error .malformedOperand
    | 1 => .ok (.ind (field c 10 4) (field c 7 3) (c.getLsbD 6) (Size.ofCode (field c 4 2)) (field c 0 4), rest)
    | 2 => if c.getLsbD 13 then .error .malformedOperand else .ok (.short (c.getLsbD 12) (field c 0 12), rest)
    | _ => takeLong c rest
  | _ => .error .truncated

/-- What follows an opcode word: `n` operands, or a destination immediate of the given size, and the instruction they
complete (30_encoding.md R170). -/
inductive Form
  | op0 (i : Instr)
  | op1 (k : Operand → Instr)
  | op2 (k : Operand → Operand → Instr)
  | op3 (k : Operand → Operand → Operand → Instr)
  | dest16 (k : BitVec 16 → Instr)
  | dest32 (k : BitVec 32 → Instr)
  | dest64 (k : BitVec 64 → Instr)
  | dest (ss : BitVec 2) (k : SizedImm → Instr)

/-- `h = [l0 0f]`, the two middle bits reserved (30_encoding.md R210). -/
def hLockFlags (h : BitVec 4) (k : Bool → Bool → Form) : Except DecodeError Form :=
  if field h 1 2 = 0 then .ok (k (h.getLsbD 3) (h.getLsbD 0)) else .error .reservedH

/-- `h = [00 0f]` (30_encoding.md R210). -/
def hFlags (h : BitVec 4) (k : Bool → Form) : Except DecodeError Form :=
  if field h 1 3 = 0 then .ok (k (h.getLsbD 0)) else .error .reservedH

/-- `h = [ss 0f]`: `w` must be 0 (40_undefined_alu_muldiv.md R240). -/
def hMul (h : BitVec 4) (k : Size → Bool → Instr) : Except DecodeError Form :=
  if h.getLsbD 1 then .error .reservedH else .ok (.op0 (k (Size.ofCode (field h 2 2)) (h.getLsbD 0)))

/-- `h = [ss wf]` (30_encoding.md R210). -/
def hDiv (h : BitVec 4) (k : Size → Bool → Bool → Instr) : Except DecodeError Form :=
  .ok (.op0 (k (Size.ofCode (field h 2 2)) (h.getLsbD 1) (h.getLsbD 0)))

/-- `h` all zero (30_encoding.md R210). -/
def hZero (h : BitVec 4) (k : Form) : Except DecodeError Form :=
  if h = 0 then .ok k else .error .reservedH

/-- `h = [00 ss]` with `ss` a transfer size (30_encoding.md R210). -/
def hSize (h : BitVec 4) (k : Size → Instr) : Except DecodeError Form :=
  if field h 2 2 = 0 then .ok (.op0 (k (Size.ofCode (field h 0 2)))) else .error .reservedH

/-- `h = [00 ss]` with `ss` the size of the destination immediate; `ss = 3` is UND at decode (46_branches.md R400). -/
def hDest (h : BitVec 4) (k : SizedImm → Instr) : Except DecodeError Form :=
  if field h 2 2 = 0 ∧ field h 0 2 ≠ 3 then .ok (.dest (field h 0 2) k) else .error .reservedH

/-- `h = [v0 ss]` (47_forcing_transfers.md R420). -/
def hPushDest (h : BitVec 4) (k : Bool → SizedImm → Instr) : Except DecodeError Form :=
  if h.getLsbD 2 = false ∧ field h 0 2 ≠ 3 then .ok (.dest (field h 0 2) (k (h.getLsbD 3))) else .error .reservedH

/-- The opcode map (30_encoding.md R200, R201, R202): the row an opcode word belongs to. -/
def decodeHead (word : BitVec 16) : Except DecodeError Form :=
  let h := field word 0 4
  match (field word 4 12).toNat with
  | 0x000 => .ok (.op0 (.und000 h))
  | 0x001 => hLockFlags h fun l f => .op2 (.add l f)
  | 0x002 => hLockFlags h fun l f => .op2 (.sub l f)
  | 0x003 => hLockFlags h fun l f => .op2 (.and l f)
  | 0x004 => hLockFlags h fun l f => .op2 (.or l f)
  | 0x005 => hLockFlags h fun l f => .op2 (.xor l f)
  | 0x006 => hMul h .mul
  | 0x007 => hDiv h .div
  | 0x008 => hZero h (.op2 .mov)
  | 0x009 => hZero h (.op2 .lea)
  | 0x00A => .ok (.op1 (.movTogpr h))
  | 0x00B => .ok (.op1 (.movFromgpr h))
  | 0x00C => .ok (.op1 (.leaTogpr h))
  | 0x010 => hZero h (.op0 .nop)
  | 0x011 => hZero h (.op1 .nop1)
  | 0x012 => hZero h (.op2 .nop2)
  | 0x013 => hZero h (.op3 .nop3)
  | 0x014 => hZero h (.op1 .push)
  | 0x015 => hZero h (.op1 .pop)
  | 0x016 => .ok (.op0 (.pushReg h))
  | 0x017 => .ok (.op0 (.popReg h))
  | 0x018 => hZero h (.op1 .stogpr)
  | 0x019 => hZero h (.op1 .stoar)
  | 0x01A => hZero h (.op1 .rstogpr)
  | 0x01B => hZero h (.op1 .rstoar)
  | 0x01C => hZero h (.op0 .pushgpr)
  | 0x01D => hZero h (.op0 .pushar)
  | 0x01E => hZero h (.op0 .popgpr)
  | 0x01F => hZero h (.op0 .popar)
  | 0x020 => hFlags h fun f => .op2 (.movsx f)
  | 0x021 => hFlags h fun f => .op2 (.bswap f)
  | 0x030 => hLockFlags h fun l f => .op2 (.lsh l f)
  | 0x031 => hLockFlags h fun l f => .op2 (.rsh l f)
  | 0x032 => hLockFlags h fun l f => .op2 (.arsh l f)
  | 0x033 => hLockFlags h fun l f => .op2 (.lshc l f)
  | 0x034 => hLockFlags h fun l f => .op2 (.rshc l f)
  | 0x035 => hLockFlags h fun l f => .op2 (.lrot l f)
  | 0x036 => hLockFlags h fun l f => .op2 (.rrot l f)
  | 0x038 => .ok (.op1 (.lshGpr h))
  | 0x039 => .ok (.op1 (.rshGpr h))
  | 0x03A => .ok (.op1 (.arshGpr h))
  | 0x03B => .ok (.op1 (.lshcGpr h))
  | 0x03C => .ok (.op1 (.rshcGpr h))
  | 0x03D => .ok (.op1 (.lrotGpr h))
  | 0x03E => .ok (.op1 (.rrotGpr h))
  | 0x040 => hMul h .imul
  | 0x041 => .ok (.op1 (.addTogpr h))
  | 0x042 => .ok (.op1 (.subTogpr h))
  | 0x043 => .ok (.op1 (.andTogpr h))
  | 0x044 => .ok (.op1 (.orTogpr h))
  | 0x045 => .ok (.op1 (.xorTogpr h))
  | 0x046 => hLockFlags h fun l f => .op1 (.bnot l f)
  | 0x047 => hLockFlags h fun l f => .op1 (.neg l f)
  | 0x048 => hDiv h .idiv
  | 0x049 => .ok (.op1 (.addFromgpr h))
  | 0x04A => .ok (.op1 (.subFromgpr h))
  | 0x04B => .ok (.op1 (.andFromgpr h))
  | 0x04C => .ok (.op1 (.orFromgpr h))
  | 0x04D => .ok (.op1 (.xorFromgpr h))
  | 0x04E => .ok (.op0 (.bnotGpr h))
  | 0x04F => .ok (.op0 (.negGpr h))
  | 0x068 => .ok (.op3 (.cmovt (Cond.ofCode h)))
  | 0x069 => .ok (.op2 (.cmov (Cond.ofCode h)))
  | 0x06C => hZero h (.op2 .cmp)
  | 0x06D => hZero h (.op2 .test)
  | 0x06E => .ok (.op1 (.cmpGpr h))
  | 0x06F => .ok (.op1 (.testGpr h))
  | 0x200 => hZero h (.op2 .xchg)
  | 0x201 => hZero h (.op3 .cmpxchg)
  | 0x202 => hZero h (.op3 .wcmpxchg)
  | 0x203 => hZero h (.op0 .fence)
  | 0x700 => .ok (.dest16 (.jpAbs16 h))
  | 0x701 => .ok (.dest16 (.jcAbs16 h))
  | 0x702 => .ok (.dest16 (.jvAbs16 h))
  | 0x703 => .ok (.dest16 (.jzAbs16 h))
  | 0x704 => .ok (.dest16 (.jltAbs16 h))
  | 0x705 => .ok (.dest16 (.jleAbs16 h))
  | 0x706 => .ok (.dest16 (.jbeAbs16 h))
  | 0x707 => .ok (.dest16 (.jmiAbs16 h))
  | 0x708 => .ok (.dest16 (.jplAbs16 h))
  | 0x709 => .ok (.dest16 (.jaAbs16 h))
  | 0x70A => .ok (.dest16 (.jgtAbs16 h))
  | 0x70B => .ok (.dest16 (.jgeAbs16 h))
  | 0x70C => .ok (.dest16 (.jnzAbs16 h))
  | 0x70D => .ok (.dest16 (.jnvAbs16 h))
  | 0x70E => .ok (.dest16 (.jncAbs16 h))
  | 0x70F => .ok (.dest16 (.jnpAbs16 h))
  | 0x710 => .ok (.dest16 (.jpRel16 h))
  | 0x711 => .ok (.dest16 (.jcRel16 h))
  | 0x712 => .ok (.dest16 (.jvRel16 h))
  | 0x713 => .ok (.dest16 (.jzRel16 h))
  | 0x714 => .ok (.dest16 (.jltRel16 h))
  | 0x715 => .ok (.dest16 (.jleRel16 h))
  | 0x716 => .ok (.dest16 (.jbeRel16 h))
  | 0x717 => .ok (.dest16 (.jmiRel16 h))
  | 0x718 => .ok (.dest16 (.jplRel16 h))
  | 0x719 => .ok (.dest16 (.jaRel16 h))
  | 0x71A => .ok (.dest16 (.jgtRel16 h))
  | 0x71B => .ok (.dest16 (.jgeRel16 h))
  | 0x71C => .ok (.dest16 (.jnzRel16 h))
  | 0x71D => .ok (.dest16 (.jnvRel16 h))
  | 0x71E => .ok (.dest16 (.jncRel16 h))
  | 0x71F => .ok (.dest16 (.jnpRel16 h))
  | 0x740 => .ok (.dest32 (.jpAbs32 h))
  | 0x741 => .ok (.dest32 (.jcAbs32 h))
  | 0x742 => .ok (.dest32 (.jvAbs32 h))
  | 0x743 => .ok (.dest32 (.jzAbs32 h))
  | 0x744 => .ok (.dest32 (.jltAbs32 h))
  | 0x745 => .ok (.dest32 (.jleAbs32 h))
  | 0x746 => .ok (.dest32 (.jbeAbs32 h))
  | 0x747 => .ok (.dest32 (.jmiAbs32 h))
  | 0x748 => .ok (.dest32 (.jplAbs32 h))
  | 0x749 => .ok (.dest32 (.jaAbs32 h))
  | 0x74A => .ok (.dest32 (.jgtAbs32 h))
  | 0x74B => .ok (.dest32 (.jgeAbs32 h))
  | 0x74C => .ok (.dest32 (.jnzAbs32 h))
  | 0x74D => .ok (.dest32 (.jnvAbs32 h))
  | 0x74E => .ok (.dest32 (.jncAbs32 h))
  | 0x74F => .ok (.dest32 (.jnpAbs32 h))
  | 0x750 => .ok (.dest32 (.jpRel32 h))
  | 0x751 => .ok (.dest32 (.jcRel32 h))
  | 0x752 => .ok (.dest32 (.jvRel32 h))
  | 0x753 => .ok (.dest32 (.jzRel32 h))
  | 0x754 => .ok (.dest32 (.jltRel32 h))
  | 0x755 => .ok (.dest32 (.jleRel32 h))
  | 0x756 => .ok (.dest32 (.jbeRel32 h))
  | 0x757 => .ok (.dest32 (.jmiRel32 h))
  | 0x758 => .ok (.dest32 (.jplRel32 h))
  | 0x759 => .ok (.dest32 (.jaRel32 h))
  | 0x75A => .ok (.dest32 (.jgtRel32 h))
  | 0x75B => .ok (.dest32 (.jgeRel32 h))
  | 0x75C => .ok (.dest32 (.jnzRel32 h))
  | 0x75D => .ok (.dest32 (.jnvRel32 h))
  | 0x75E => .ok (.dest32 (.jncRel32 h))
  | 0x75F => .ok (.dest32 (.jnpRel32 h))
  | 0x780 => .ok (.dest64 (.jpAbs64 h))
  | 0x781 => .ok (.dest64 (.jcAbs64 h))
  | 0x782 => .ok (.dest64 (.jvAbs64 h))
  | 0x783 => .ok (.dest64 (.jzAbs64 h))
  | 0x784 => .ok (.dest64 (.jltAbs64 h))
  | 0x785 => .ok (.dest64 (.jleAbs64 h))
  | 0x786 => .ok (.dest64 (.jbeAbs64 h))
  | 0x787 => .ok (.dest64 (.jmiAbs64 h))
  | 0x788 => .ok (.dest64 (.jplAbs64 h))
  | 0x789 => .ok (.dest64 (.jaAbs64 h))
  | 0x78A => .ok (.dest64 (.jgtAbs64 h))
  | 0x78B => .ok (.dest64 (.jgeAbs64 h))
  | 0x78C => .ok (.dest64 (.jnzAbs64 h))
  | 0x78D => .ok (.dest64 (.jnvAbs64 h))
  | 0x78E => .ok (.dest64 (.jncAbs64 h))
  | 0x78F => .ok (.dest64 (.jnpAbs64 h))
  | 0x790 => .ok (.dest64 (.jpRel64 h))
  | 0x791 => .ok (.dest64 (.jcRel64 h))
  | 0x792 => .ok (.dest64 (.jvRel64 h))
  | 0x793 => .ok (.dest64 (.jzRel64 h))
  | 0x794 => .ok (.dest64 (.jltRel64 h))
  | 0x795 => .ok (.dest64 (.jleRel64 h))
  | 0x796 => .ok (.dest64 (.jbeRel64 h))
  | 0x797 => .ok (.dest64 (.jmiRel64 h))
  | 0x798 => .ok (.dest64 (.jplRel64 h))
  | 0x799 => .ok (.dest64 (.jaRel64 h))
  | 0x79A => .ok (.dest64 (.jgtRel64 h))
  | 0x79B => .ok (.dest64 (.jgeRel64 h))
  | 0x79C => .ok (.dest64 (.jnzRel64 h))
  | 0x79D => .ok (.dest64 (.jnvRel64 h))
  | 0x79E => .ok (.dest64 (.jncRel64 h))
  | 0x79F => .ok (.dest64 (.jnpRel64 h))
  | 0x7C0 => hDest h .jmpAbs
  | 0x7C1 => hDest h .callAbs
  | 0x7C2 => hDest h .fcallAbs
  | 0x7C3 => hZero h (.op0 .ret)
  | 0x7C4 => hZero h (.op0 .scall)
  | 0x7C5 => .ok (.op0 (.int h))
  | 0x7C8 => .ok (.op0 (if h = 14 then .fretAbs else if h = 15 then .ifjmpAbs else .ijmpAbs h))
  | 0x7C9 => .ok (.op0 (.icallAbs h))
  | 0x7CA => hZero h (.op0 .ifcallAbs)
  | 0x7CB => hDest h .jsmAbs
  | 0x7CC => hPushDest h .callsmAbs
  | 0x7CD => hZero h (.op0 .retrsm)
  | 0x7D0 => hDest h .jmpRel
  | 0x7D1 => hDest h .callRel
  | 0x7D2 => hDest h .fcallRel
  | 0x7D8 => .ok (.op0 (if h = 14 then .fretRel else if h = 15 then .ifjmpRel else .ijmpRel h))
  | 0x7D9 => .ok (.op0 (.icallRel h))
  | 0x7DA => hZero h (.op0 .ifcallRel)
  | 0x7DB => hDest h .jsmRel
  | 0x7DC => hPushDest h .callsmRel
  | 0x801 => hZero h (.op0 .halt)
  | 0x802 => hZero h (.op0 .pcfl)
  | 0x803 => hZero h (.op0 .flall)
  | 0x804 => hZero h (.op1 .dflush)
  | 0x805 => hZero h (.op1 .iflush)
  | 0x806 => hSize h .ioIn
  | 0x807 => hSize h .ioOut
  | 0x808 => hZero h (.op1 .storegf)
  | 0x809 => hZero h (.op1 .rstregf)
  | 0xFC6 => hZero h (.op0 .scret)
  | 0xFC7 => hZero h (.op0 .reti)
  | 0xFE0 => .ok (.op0 (.machineFe0 h))
  | 0xFE1 => .ok (.op0 (.machineFe1 h))
  | 0xFE2 => .ok (.op0 (.machineFe2 h))
  | 0xFE3 => .ok (.op0 (.machineFe3 h))
  | 0xFE4 => .ok (.op0 (.machineFe4 h))
  | 0xFE5 => .ok (.op0 (.machineFe5 h))
  | 0xFE6 => .ok (.op0 (.machineFe6 h))
  | 0xFE7 => .ok (.op0 (.machineFe7 h))
  | 0xFE8 => .ok (.op0 (.machineFe8 h))
  | 0xFE9 => .ok (.op0 (.machineFe9 h))
  | 0xFEA => .ok (.op0 (.machineFea h))
  | 0xFEB => .ok (.op0 (.machineFeb h))
  | 0xFEC => .ok (.op0 (.machineFec h))
  | 0xFED => .ok (.op0 (.machineFed h))
  | 0xFEE => .ok (.op0 (.machineFee h))
  | 0xFEF => .ok (.op0 (.machineFef h))
  | 0xFF0 => .ok (.op0 (.machineFf0 h))
  | 0xFF1 => .ok (.op0 (.machineFf1 h))
  | 0xFF2 => .ok (.op0 (.machineFf2 h))
  | 0xFF3 => .ok (.op0 (.machineFf3 h))
  | 0xFF4 => .ok (.op0 (.machineFf4 h))
  | 0xFF5 => .ok (.op0 (.machineFf5 h))
  | 0xFF6 => .ok (.op0 (.machineFf6 h))
  | 0xFF7 => .ok (.op0 (.machineFf7 h))
  | 0xFF8 => .ok (.op0 (.machineFf8 h))
  | 0xFF9 => .ok (.op0 (.machineFf9 h))
  | 0xFFA => .ok (.op0 (.machineFfa h))
  | 0xFFB => .ok (.op0 (.machineFfb h))
  | 0xFFC => .ok (.op0 (.machineFfc h))
  | 0xFFD => .ok (.op0 (.machineFfd h))
  | 0xFFE => .ok (.op0 (.machineFfe h))
  | 0xFFF => .ok (.op0 (.undFFF h))
  | _ => .error .undefinedOpcode

/-- The operands or the destination immediate that complete an opcode word, in encoding order (30_encoding.md R170). -/
def Form.complete (f : Form) (bs : List Byte) : Except DecodeError (Instr × List Byte) :=
  match f with
  | .op0 i => .ok (i, bs)
  | .op1 k => do
    let (a, bs) ← takeOperand bs
    .ok (k a, bs)
  | .op2 k => do
    let (a, bs) ← takeOperand bs
    let (b, bs) ← takeOperand bs
    .ok (k a b, bs)
  | .op3 k => do
    let (a, bs) ← takeOperand bs
    let (b, bs) ← takeOperand bs
    let (c, bs) ← takeOperand bs
    .ok (k a b c, bs)
  | .dest16 k =>
    match bs with
    | b0 :: b1 :: rest => .ok (k (b1 ++ b0), rest)
    | _ => .error .truncated
  | .dest32 k =>
    match bs with
    | b0 :: b1 :: b2 :: b3 :: rest => .ok (k (b3 ++ b2 ++ b1 ++ b0), rest)
    | _ => .error .truncated
  | .dest64 k =>
    match bs with
    | b0 :: b1 :: b2 :: b3 :: b4 :: b5 :: b6 :: b7 :: rest =>
      .ok (k (b7 ++ b6 ++ b5 ++ b4 ++ b3 ++ b2 ++ b1 ++ b0), rest)
    | _ => .error .truncated
  | .dest ss k => do
    let (d, bs) ← takeImm ss bs
    .ok (k d, bs)

/-- The instruction at the front of the bytes, and the bytes after it. -/
def decode : List Byte → Except DecodeError (Instr × List Byte)
  | b0 :: b1 :: rest => do
    let f ← decodeHead (b0 ++ b1)
    f.complete rest
  | _ => .error .truncated

/-- Whether an opcode word is a defined supervisor instruction of this machine: 0x801 to 0x809, 0xFC6, 0xFC7
(30_encoding.md R200, R203; the machine-specific block is UND in either mode, 48_supervisor.md R451). -/
def supervisorOpcode (word : BitVec 16) : Bool :=
  let op := (field word 4 12).toNat
  (decide (0x801 ≤ op) && decide (op ≤ 0x809)) || op == 0xFC6 || op == 0xFC7

/-! ### Encoding -/

/-- The control structure of an operand (30_encoding.md R180 to R183). -/
def Operand.control : Operand → BitVec 16
  | .reg z r => 0#2 ++ 0#4 ++ z.code ++ r
  | .ind o sc k z base => 1#2 ++ o ++ sc ++ BitVec.ofBool k ++ z.code ++ base
  | .short rel i => 2#2 ++ 0#1 ++ BitVec.ofBool rel ++ i
  | .long rel i => 3#2 ++ 0#1 ++ 0#2 ++ BitVec.ofBool rel ++ i.code ++ 0#2 ++ 0#2 ++ 0#4
  | .memRef rel z i => 3#2 ++ 1#1 ++ 0#2 ++ BitVec.ofBool rel ++ i.code ++ 0#2 ++ z.code ++ 0#4

/-- The bytes of an operand: its control structure, then its immediate (30_encoding.md R170). -/
def Operand.encode (o : Operand) : List Byte :=
  unitBytes o.control ++
    match o with
    | .long _ i => i.toBytes
    | .memRef _ _ i => i.toBytes
    | _ => []

/-- `[l0 0f]`. -/
def hOfLockFlags (l f : Bool) : BitVec 4 := BitVec.ofBool l ++ 0#2 ++ BitVec.ofBool f

/-- `[ss wf]`. -/
def hOfSizeWide (z : Size) (w f : Bool) : BitVec 4 := z.code ++ BitVec.ofBool w ++ BitVec.ofBool f

/-- `[00 ss]` for an immediate. -/
def hOfDest (d : SizedImm) : BitVec 4 := 0#2 ++ d.code

/-- `[v0 ss]`. -/
def hOfPushDest (v : Bool) (d : SizedImm) : BitVec 4 := BitVec.ofBool v ++ 0#1 ++ d.code

/-- The opcode word of an instruction (30_encoding.md R171, R200, R210). -/
def Instr.head : Instr → BitVec 16
  | .und000 h => 0x000#12 ++ h
  | .add l f _ _ => 0x001#12 ++ (hOfLockFlags l f)
  | .sub l f _ _ => 0x002#12 ++ (hOfLockFlags l f)
  | .and l f _ _ => 0x003#12 ++ (hOfLockFlags l f)
  | .or l f _ _ => 0x004#12 ++ (hOfLockFlags l f)
  | .xor l f _ _ => 0x005#12 ++ (hOfLockFlags l f)
  | .mul sz f => 0x006#12 ++ (hOfSizeWide sz false f)
  | .div sz w f => 0x007#12 ++ (hOfSizeWide sz w f)
  | .mov _ _ => 0x008#12 ++ 0#4
  | .lea _ _ => 0x009#12 ++ 0#4
  | .movTogpr r _ => 0x00A#12 ++ r
  | .movFromgpr r _ => 0x00B#12 ++ r
  | .leaTogpr r _ => 0x00C#12 ++ r
  | .nop => 0x010#12 ++ 0#4
  | .nop1 _ => 0x011#12 ++ 0#4
  | .nop2 _ _ => 0x012#12 ++ 0#4
  | .nop3 _ _ _ => 0x013#12 ++ 0#4
  | .push _ => 0x014#12 ++ 0#4
  | .pop _ => 0x015#12 ++ 0#4
  | .pushReg r => 0x016#12 ++ r
  | .popReg r => 0x017#12 ++ r
  | .stogpr _ => 0x018#12 ++ 0#4
  | .stoar _ => 0x019#12 ++ 0#4
  | .rstogpr _ => 0x01A#12 ++ 0#4
  | .rstoar _ => 0x01B#12 ++ 0#4
  | .pushgpr => 0x01C#12 ++ 0#4
  | .pushar => 0x01D#12 ++ 0#4
  | .popgpr => 0x01E#12 ++ 0#4
  | .popar => 0x01F#12 ++ 0#4
  | .movsx f _ _ => 0x020#12 ++ (hOfLockFlags false f)
  | .bswap f _ _ => 0x021#12 ++ (hOfLockFlags false f)
  | .lsh l f _ _ => 0x030#12 ++ (hOfLockFlags l f)
  | .rsh l f _ _ => 0x031#12 ++ (hOfLockFlags l f)
  | .arsh l f _ _ => 0x032#12 ++ (hOfLockFlags l f)
  | .lshc l f _ _ => 0x033#12 ++ (hOfLockFlags l f)
  | .rshc l f _ _ => 0x034#12 ++ (hOfLockFlags l f)
  | .lrot l f _ _ => 0x035#12 ++ (hOfLockFlags l f)
  | .rrot l f _ _ => 0x036#12 ++ (hOfLockFlags l f)
  | .lshGpr r _ => 0x038#12 ++ r
  | .rshGpr r _ => 0x039#12 ++ r
  | .arshGpr r _ => 0x03A#12 ++ r
  | .lshcGpr r _ => 0x03B#12 ++ r
  | .rshcGpr r _ => 0x03C#12 ++ r
  | .lrotGpr r _ => 0x03D#12 ++ r
  | .rrotGpr r _ => 0x03E#12 ++ r
  | .imul sz f => 0x040#12 ++ (hOfSizeWide sz false f)
  | .addTogpr r _ => 0x041#12 ++ r
  | .subTogpr r _ => 0x042#12 ++ r
  | .andTogpr r _ => 0x043#12 ++ r
  | .orTogpr r _ => 0x044#12 ++ r
  | .xorTogpr r _ => 0x045#12 ++ r
  | .bnot l f _ => 0x046#12 ++ (hOfLockFlags l f)
  | .neg l f _ => 0x047#12 ++ (hOfLockFlags l f)
  | .idiv sz w f => 0x048#12 ++ (hOfSizeWide sz w f)
  | .addFromgpr r _ => 0x049#12 ++ r
  | .subFromgpr r _ => 0x04A#12 ++ r
  | .andFromgpr r _ => 0x04B#12 ++ r
  | .orFromgpr r _ => 0x04C#12 ++ r
  | .xorFromgpr r _ => 0x04D#12 ++ r
  | .bnotGpr r => 0x04E#12 ++ r
  | .negGpr r => 0x04F#12 ++ r
  | .cmovt cc _ _ _ => 0x068#12 ++ cc.code
  | .cmov cc _ _ => 0x069#12 ++ cc.code
  | .cmp _ _ => 0x06C#12 ++ 0#4
  | .test _ _ => 0x06D#12 ++ 0#4
  | .cmpGpr r _ => 0x06E#12 ++ r
  | .testGpr r _ => 0x06F#12 ++ r
  | .xchg _ _ => 0x200#12 ++ 0#4
  | .cmpxchg _ _ _ => 0x201#12 ++ 0#4
  | .wcmpxchg _ _ _ => 0x202#12 ++ 0#4
  | .fence => 0x203#12 ++ 0#4
  | .jpAbs16 w _ => 0x700#12 ++ w
  | .jcAbs16 w _ => 0x701#12 ++ w
  | .jvAbs16 w _ => 0x702#12 ++ w
  | .jzAbs16 w _ => 0x703#12 ++ w
  | .jltAbs16 w _ => 0x704#12 ++ w
  | .jleAbs16 w _ => 0x705#12 ++ w
  | .jbeAbs16 w _ => 0x706#12 ++ w
  | .jmiAbs16 w _ => 0x707#12 ++ w
  | .jplAbs16 w _ => 0x708#12 ++ w
  | .jaAbs16 w _ => 0x709#12 ++ w
  | .jgtAbs16 w _ => 0x70A#12 ++ w
  | .jgeAbs16 w _ => 0x70B#12 ++ w
  | .jnzAbs16 w _ => 0x70C#12 ++ w
  | .jnvAbs16 w _ => 0x70D#12 ++ w
  | .jncAbs16 w _ => 0x70E#12 ++ w
  | .jnpAbs16 w _ => 0x70F#12 ++ w
  | .jpRel16 w _ => 0x710#12 ++ w
  | .jcRel16 w _ => 0x711#12 ++ w
  | .jvRel16 w _ => 0x712#12 ++ w
  | .jzRel16 w _ => 0x713#12 ++ w
  | .jltRel16 w _ => 0x714#12 ++ w
  | .jleRel16 w _ => 0x715#12 ++ w
  | .jbeRel16 w _ => 0x716#12 ++ w
  | .jmiRel16 w _ => 0x717#12 ++ w
  | .jplRel16 w _ => 0x718#12 ++ w
  | .jaRel16 w _ => 0x719#12 ++ w
  | .jgtRel16 w _ => 0x71A#12 ++ w
  | .jgeRel16 w _ => 0x71B#12 ++ w
  | .jnzRel16 w _ => 0x71C#12 ++ w
  | .jnvRel16 w _ => 0x71D#12 ++ w
  | .jncRel16 w _ => 0x71E#12 ++ w
  | .jnpRel16 w _ => 0x71F#12 ++ w
  | .jpAbs32 w _ => 0x740#12 ++ w
  | .jcAbs32 w _ => 0x741#12 ++ w
  | .jvAbs32 w _ => 0x742#12 ++ w
  | .jzAbs32 w _ => 0x743#12 ++ w
  | .jltAbs32 w _ => 0x744#12 ++ w
  | .jleAbs32 w _ => 0x745#12 ++ w
  | .jbeAbs32 w _ => 0x746#12 ++ w
  | .jmiAbs32 w _ => 0x747#12 ++ w
  | .jplAbs32 w _ => 0x748#12 ++ w
  | .jaAbs32 w _ => 0x749#12 ++ w
  | .jgtAbs32 w _ => 0x74A#12 ++ w
  | .jgeAbs32 w _ => 0x74B#12 ++ w
  | .jnzAbs32 w _ => 0x74C#12 ++ w
  | .jnvAbs32 w _ => 0x74D#12 ++ w
  | .jncAbs32 w _ => 0x74E#12 ++ w
  | .jnpAbs32 w _ => 0x74F#12 ++ w
  | .jpRel32 w _ => 0x750#12 ++ w
  | .jcRel32 w _ => 0x751#12 ++ w
  | .jvRel32 w _ => 0x752#12 ++ w
  | .jzRel32 w _ => 0x753#12 ++ w
  | .jltRel32 w _ => 0x754#12 ++ w
  | .jleRel32 w _ => 0x755#12 ++ w
  | .jbeRel32 w _ => 0x756#12 ++ w
  | .jmiRel32 w _ => 0x757#12 ++ w
  | .jplRel32 w _ => 0x758#12 ++ w
  | .jaRel32 w _ => 0x759#12 ++ w
  | .jgtRel32 w _ => 0x75A#12 ++ w
  | .jgeRel32 w _ => 0x75B#12 ++ w
  | .jnzRel32 w _ => 0x75C#12 ++ w
  | .jnvRel32 w _ => 0x75D#12 ++ w
  | .jncRel32 w _ => 0x75E#12 ++ w
  | .jnpRel32 w _ => 0x75F#12 ++ w
  | .jpAbs64 w _ => 0x780#12 ++ w
  | .jcAbs64 w _ => 0x781#12 ++ w
  | .jvAbs64 w _ => 0x782#12 ++ w
  | .jzAbs64 w _ => 0x783#12 ++ w
  | .jltAbs64 w _ => 0x784#12 ++ w
  | .jleAbs64 w _ => 0x785#12 ++ w
  | .jbeAbs64 w _ => 0x786#12 ++ w
  | .jmiAbs64 w _ => 0x787#12 ++ w
  | .jplAbs64 w _ => 0x788#12 ++ w
  | .jaAbs64 w _ => 0x789#12 ++ w
  | .jgtAbs64 w _ => 0x78A#12 ++ w
  | .jgeAbs64 w _ => 0x78B#12 ++ w
  | .jnzAbs64 w _ => 0x78C#12 ++ w
  | .jnvAbs64 w _ => 0x78D#12 ++ w
  | .jncAbs64 w _ => 0x78E#12 ++ w
  | .jnpAbs64 w _ => 0x78F#12 ++ w
  | .jpRel64 w _ => 0x790#12 ++ w
  | .jcRel64 w _ => 0x791#12 ++ w
  | .jvRel64 w _ => 0x792#12 ++ w
  | .jzRel64 w _ => 0x793#12 ++ w
  | .jltRel64 w _ => 0x794#12 ++ w
  | .jleRel64 w _ => 0x795#12 ++ w
  | .jbeRel64 w _ => 0x796#12 ++ w
  | .jmiRel64 w _ => 0x797#12 ++ w
  | .jplRel64 w _ => 0x798#12 ++ w
  | .jaRel64 w _ => 0x799#12 ++ w
  | .jgtRel64 w _ => 0x79A#12 ++ w
  | .jgeRel64 w _ => 0x79B#12 ++ w
  | .jnzRel64 w _ => 0x79C#12 ++ w
  | .jnvRel64 w _ => 0x79D#12 ++ w
  | .jncRel64 w _ => 0x79E#12 ++ w
  | .jnpRel64 w _ => 0x79F#12 ++ w
  | .jmpAbs d => 0x7C0#12 ++ (hOfDest d)
  | .callAbs d => 0x7C1#12 ++ (hOfDest d)
  | .fcallAbs d => 0x7C2#12 ++ (hOfDest d)
  | .ret => 0x7C3#12 ++ 0#4
  | .scall => 0x7C4#12 ++ 0#4
  | .int i => 0x7C5#12 ++ i
  | .ijmpAbs r => 0x7C8#12 ++ r
  | .fretAbs => 0x7C8#12 ++ 14#4
  | .ifjmpAbs => 0x7C8#12 ++ 15#4
  | .icallAbs r => 0x7C9#12 ++ r
  | .ifcallAbs => 0x7CA#12 ++ 0#4
  | .jsmAbs d => 0x7CB#12 ++ (hOfDest d)
  | .callsmAbs v d => 0x7CC#12 ++ (hOfPushDest v d)
  | .retrsm => 0x7CD#12 ++ 0#4
  | .jmpRel d => 0x7D0#12 ++ (hOfDest d)
  | .callRel d => 0x7D1#12 ++ (hOfDest d)
  | .fcallRel d => 0x7D2#12 ++ (hOfDest d)
  | .ijmpRel r => 0x7D8#12 ++ r
  | .fretRel => 0x7D8#12 ++ 14#4
  | .ifjmpRel => 0x7D8#12 ++ 15#4
  | .icallRel r => 0x7D9#12 ++ r
  | .ifcallRel => 0x7DA#12 ++ 0#4
  | .jsmRel d => 0x7DB#12 ++ (hOfDest d)
  | .callsmRel v d => 0x7DC#12 ++ (hOfPushDest v d)
  | .halt => 0x801#12 ++ 0#4
  | .pcfl => 0x802#12 ++ 0#4
  | .flall => 0x803#12 ++ 0#4
  | .dflush _ => 0x804#12 ++ 0#4
  | .iflush _ => 0x805#12 ++ 0#4
  | .ioIn sz => 0x806#12 ++ (0#2 ++ sz.code : BitVec 4)
  | .ioOut sz => 0x807#12 ++ (0#2 ++ sz.code : BitVec 4)
  | .storegf _ => 0x808#12 ++ 0#4
  | .rstregf _ => 0x809#12 ++ 0#4
  | .scret => 0xFC6#12 ++ 0#4
  | .reti => 0xFC7#12 ++ 0#4
  | .machineFe0 h => 0xFE0#12 ++ h
  | .machineFe1 h => 0xFE1#12 ++ h
  | .machineFe2 h => 0xFE2#12 ++ h
  | .machineFe3 h => 0xFE3#12 ++ h
  | .machineFe4 h => 0xFE4#12 ++ h
  | .machineFe5 h => 0xFE5#12 ++ h
  | .machineFe6 h => 0xFE6#12 ++ h
  | .machineFe7 h => 0xFE7#12 ++ h
  | .machineFe8 h => 0xFE8#12 ++ h
  | .machineFe9 h => 0xFE9#12 ++ h
  | .machineFea h => 0xFEA#12 ++ h
  | .machineFeb h => 0xFEB#12 ++ h
  | .machineFec h => 0xFEC#12 ++ h
  | .machineFed h => 0xFED#12 ++ h
  | .machineFee h => 0xFEE#12 ++ h
  | .machineFef h => 0xFEF#12 ++ h
  | .machineFf0 h => 0xFF0#12 ++ h
  | .machineFf1 h => 0xFF1#12 ++ h
  | .machineFf2 h => 0xFF2#12 ++ h
  | .machineFf3 h => 0xFF3#12 ++ h
  | .machineFf4 h => 0xFF4#12 ++ h
  | .machineFf5 h => 0xFF5#12 ++ h
  | .machineFf6 h => 0xFF6#12 ++ h
  | .machineFf7 h => 0xFF7#12 ++ h
  | .machineFf8 h => 0xFF8#12 ++ h
  | .machineFf9 h => 0xFF9#12 ++ h
  | .machineFfa h => 0xFFA#12 ++ h
  | .machineFfb h => 0xFFB#12 ++ h
  | .machineFfc h => 0xFFC#12 ++ h
  | .machineFfd h => 0xFFD#12 ++ h
  | .machineFfe h => 0xFFE#12 ++ h
  | .undFFF h => 0xFFF#12 ++ h

/-- The destination immediate that follows the opcode word of a branch, if any (30_encoding.md R201). -/
def Instr.destination : Instr → Option SizedImm
  | .jpAbs16 _ d => some (.i16 d)
  | .jcAbs16 _ d => some (.i16 d)
  | .jvAbs16 _ d => some (.i16 d)
  | .jzAbs16 _ d => some (.i16 d)
  | .jltAbs16 _ d => some (.i16 d)
  | .jleAbs16 _ d => some (.i16 d)
  | .jbeAbs16 _ d => some (.i16 d)
  | .jmiAbs16 _ d => some (.i16 d)
  | .jplAbs16 _ d => some (.i16 d)
  | .jaAbs16 _ d => some (.i16 d)
  | .jgtAbs16 _ d => some (.i16 d)
  | .jgeAbs16 _ d => some (.i16 d)
  | .jnzAbs16 _ d => some (.i16 d)
  | .jnvAbs16 _ d => some (.i16 d)
  | .jncAbs16 _ d => some (.i16 d)
  | .jnpAbs16 _ d => some (.i16 d)
  | .jpRel16 _ d => some (.i16 d)
  | .jcRel16 _ d => some (.i16 d)
  | .jvRel16 _ d => some (.i16 d)
  | .jzRel16 _ d => some (.i16 d)
  | .jltRel16 _ d => some (.i16 d)
  | .jleRel16 _ d => some (.i16 d)
  | .jbeRel16 _ d => some (.i16 d)
  | .jmiRel16 _ d => some (.i16 d)
  | .jplRel16 _ d => some (.i16 d)
  | .jaRel16 _ d => some (.i16 d)
  | .jgtRel16 _ d => some (.i16 d)
  | .jgeRel16 _ d => some (.i16 d)
  | .jnzRel16 _ d => some (.i16 d)
  | .jnvRel16 _ d => some (.i16 d)
  | .jncRel16 _ d => some (.i16 d)
  | .jnpRel16 _ d => some (.i16 d)
  | .jpAbs32 _ d => some (.i32 d)
  | .jcAbs32 _ d => some (.i32 d)
  | .jvAbs32 _ d => some (.i32 d)
  | .jzAbs32 _ d => some (.i32 d)
  | .jltAbs32 _ d => some (.i32 d)
  | .jleAbs32 _ d => some (.i32 d)
  | .jbeAbs32 _ d => some (.i32 d)
  | .jmiAbs32 _ d => some (.i32 d)
  | .jplAbs32 _ d => some (.i32 d)
  | .jaAbs32 _ d => some (.i32 d)
  | .jgtAbs32 _ d => some (.i32 d)
  | .jgeAbs32 _ d => some (.i32 d)
  | .jnzAbs32 _ d => some (.i32 d)
  | .jnvAbs32 _ d => some (.i32 d)
  | .jncAbs32 _ d => some (.i32 d)
  | .jnpAbs32 _ d => some (.i32 d)
  | .jpRel32 _ d => some (.i32 d)
  | .jcRel32 _ d => some (.i32 d)
  | .jvRel32 _ d => some (.i32 d)
  | .jzRel32 _ d => some (.i32 d)
  | .jltRel32 _ d => some (.i32 d)
  | .jleRel32 _ d => some (.i32 d)
  | .jbeRel32 _ d => some (.i32 d)
  | .jmiRel32 _ d => some (.i32 d)
  | .jplRel32 _ d => some (.i32 d)
  | .jaRel32 _ d => some (.i32 d)
  | .jgtRel32 _ d => some (.i32 d)
  | .jgeRel32 _ d => some (.i32 d)
  | .jnzRel32 _ d => some (.i32 d)
  | .jnvRel32 _ d => some (.i32 d)
  | .jncRel32 _ d => some (.i32 d)
  | .jnpRel32 _ d => some (.i32 d)
  | .jpAbs64 _ d => some (.i64 d)
  | .jcAbs64 _ d => some (.i64 d)
  | .jvAbs64 _ d => some (.i64 d)
  | .jzAbs64 _ d => some (.i64 d)
  | .jltAbs64 _ d => some (.i64 d)
  | .jleAbs64 _ d => some (.i64 d)
  | .jbeAbs64 _ d => some (.i64 d)
  | .jmiAbs64 _ d => some (.i64 d)
  | .jplAbs64 _ d => some (.i64 d)
  | .jaAbs64 _ d => some (.i64 d)
  | .jgtAbs64 _ d => some (.i64 d)
  | .jgeAbs64 _ d => some (.i64 d)
  | .jnzAbs64 _ d => some (.i64 d)
  | .jnvAbs64 _ d => some (.i64 d)
  | .jncAbs64 _ d => some (.i64 d)
  | .jnpAbs64 _ d => some (.i64 d)
  | .jpRel64 _ d => some (.i64 d)
  | .jcRel64 _ d => some (.i64 d)
  | .jvRel64 _ d => some (.i64 d)
  | .jzRel64 _ d => some (.i64 d)
  | .jltRel64 _ d => some (.i64 d)
  | .jleRel64 _ d => some (.i64 d)
  | .jbeRel64 _ d => some (.i64 d)
  | .jmiRel64 _ d => some (.i64 d)
  | .jplRel64 _ d => some (.i64 d)
  | .jaRel64 _ d => some (.i64 d)
  | .jgtRel64 _ d => some (.i64 d)
  | .jgeRel64 _ d => some (.i64 d)
  | .jnzRel64 _ d => some (.i64 d)
  | .jnvRel64 _ d => some (.i64 d)
  | .jncRel64 _ d => some (.i64 d)
  | .jnpRel64 _ d => some (.i64 d)
  | .jmpAbs d => some d
  | .callAbs d => some d
  | .fcallAbs d => some d
  | .jsmAbs d => some d
  | .callsmAbs _ d => some d
  | .jmpRel d => some d
  | .callRel d => some d
  | .fcallRel d => some d
  | .jsmRel d => some d
  | .callsmRel _ d => some d
  | _ => none

/-- The operands that follow the opcode word, in encoding order. -/
def Instr.operands : Instr → List Operand
  | .add _ _ a b => [a, b]
  | .sub _ _ a b => [a, b]
  | .and _ _ a b => [a, b]
  | .or _ _ a b => [a, b]
  | .xor _ _ a b => [a, b]
  | .mov a b => [a, b]
  | .lea a b => [a, b]
  | .movTogpr _ a => [a]
  | .movFromgpr _ a => [a]
  | .leaTogpr _ a => [a]
  | .nop1 a => [a]
  | .nop2 a b => [a, b]
  | .nop3 a b c => [a, b, c]
  | .push a => [a]
  | .pop a => [a]
  | .stogpr a => [a]
  | .stoar a => [a]
  | .rstogpr a => [a]
  | .rstoar a => [a]
  | .movsx _ a b => [a, b]
  | .bswap _ a b => [a, b]
  | .lsh _ _ a b => [a, b]
  | .rsh _ _ a b => [a, b]
  | .arsh _ _ a b => [a, b]
  | .lshc _ _ a b => [a, b]
  | .rshc _ _ a b => [a, b]
  | .lrot _ _ a b => [a, b]
  | .rrot _ _ a b => [a, b]
  | .lshGpr _ a => [a]
  | .rshGpr _ a => [a]
  | .arshGpr _ a => [a]
  | .lshcGpr _ a => [a]
  | .rshcGpr _ a => [a]
  | .lrotGpr _ a => [a]
  | .rrotGpr _ a => [a]
  | .addTogpr _ a => [a]
  | .subTogpr _ a => [a]
  | .andTogpr _ a => [a]
  | .orTogpr _ a => [a]
  | .xorTogpr _ a => [a]
  | .bnot _ _ a => [a]
  | .neg _ _ a => [a]
  | .addFromgpr _ a => [a]
  | .subFromgpr _ a => [a]
  | .andFromgpr _ a => [a]
  | .orFromgpr _ a => [a]
  | .xorFromgpr _ a => [a]
  | .cmovt _ a b c => [a, b, c]
  | .cmov _ a b => [a, b]
  | .cmp a b => [a, b]
  | .test a b => [a, b]
  | .cmpGpr _ a => [a]
  | .testGpr _ a => [a]
  | .xchg a b => [a, b]
  | .cmpxchg a b c => [a, b, c]
  | .wcmpxchg a b c => [a, b, c]
  | .dflush a => [a]
  | .iflush a => [a]
  | .storegf a => [a]
  | .rstregf a => [a]
  | _ => []

/-- The bytes of an instruction: the opcode word, then the destination immediate or the operands (30_encoding.md R170). -/
def encode (i : Instr) : List Byte :=
  unitBytes i.head ++
    match i.destination with
    | some d => d.toBytes
    | none => i.operands.flatMap Operand.encode

/-- The length of an instruction in bytes (30_encoding.md R172). -/
def Instr.length (i : Instr) : Nat :=
  match i.destination with
  | some d => 2 + d.bytes
  | none => i.operands.foldl (fun n o => n + o.length) 2

/-! ### Reading a word numbered as the opcode table numbers it -/

/-- The number of 16-bit units of the longest instruction, 32 bytes (30_encoding.md R172). -/
def maxUnits : Nat := 16

/-- The bytes in memory order of an instruction given as a number: unit `k` is bits `16k+15 .. 16k`, most significant byte
first, and every bit from `nbits` up is 0. -/
def tableBytes (nbits w : Nat) : List Byte :=
  let v := w % 2 ^ nbits
  (List.range maxUnits).flatMap fun k => unitBytes (BitVec.ofNat 16 (v >>> (16 * k)))

/-- The instruction the decoder reads from a word of the opcode table, if any. -/
def decodeTableWord (nbits w : Nat) : Option Instr :=
  match decode (tableBytes nbits w) with
  | .ok (i, _) => some i
  | .error _ => none

end Sys2Proof
end

