-- ==== Sys2Proof/Machine/Memory.lean ====
section
/-! DEFINITION. Physical memory, the bytes of a value, and stores with what fetches and walks may still miss of them
(20_memory.md R82, R138, R156). -/

namespace Sys2Proof.Machine

/-- The byte at an address; an unlisted address reads 0 (10_state.md R65). -/
def Memory.get : Memory → Nat → Byte
  | [], _ => 0
  | (b, v) :: m, a => if a = b then v else Memory.get m a

/-- Put an entry in its place; no entry of the list has the address. -/
def Memory.insert : Memory → Nat → Byte → Memory
  | [], a, v => [(a, v)]
  | (b, w) :: m, a, v => if a < b then (a, v) :: (b, w) :: m else (b, w) :: Memory.insert m a v

/-- Replace the byte at an address; writing 0 removes the entry. -/
def Memory.set (m : Memory) (a : Nat) (v : Byte) : Memory :=
  let rest : Memory := m.filter fun c => c.1 != a
  if v = 0 then rest else Memory.insert rest a v

/-- The canonical form: addresses strictly rising, no listed byte 0. -/
def Memory.wf : Memory → Bool
  | [] => true
  | [(_, v)] => v != 0
  | (a, v) :: (b, w) :: m => v != 0 && decide (a < b) && Memory.wf ((b, w) :: m)

/-- The `n` bytes of a value, least significant first (20_memory.md R82). -/
def leBytes (n v : Nat) : List Byte := (List.range n).map fun i => BitVec.ofNat 8 (v >>> (8 * i))

/-- The value of bytes, least significant first (20_memory.md R82). -/
def leValue : List Byte → Nat
  | [] => 0
  | b :: bs => b.toNat + 256 * leValue bs

/-- The values as consecutive little-endian 8-byte words, the first at the lowest address. -/
def wordsBytes (ws : List Word) : List Byte := ws.flatMap fun w => leBytes 8 w.toNat

/-- The bytes at physical addresses. -/
def State.bytesAt (s : State) (pas : List Nat) : List Byte := pas.map s.mem.get

/-- The little-endian value at physical addresses. -/
def State.load (s : State) (pas : List Nat) : Nat := leValue (s.bytesAt pas)

/-- The 64-bit word `i` of an image of 8-byte slots at physical addresses. -/
def State.loadSlot (s : State) (pas : List Nat) (i : Nat) : Word :=
  BitVec.ofNat 64 (s.load ((pas.drop (8 * i)).take 8))

/-- Write bytes at physical addresses, with no record of the store. -/
def Memory.setMany (m : Memory) (pas : List Nat) (bs : List Byte) : Memory :=
  (pas.zip bs).foldl (fun m c => Memory.set m c.1 c.2) m

/-- `cr0.PG` (10_state.md R45). -/
def State.pg (s : State) : Bool := s.cr0.getLsbD 0

/-- One memory operation that stores bytes at physical addresses: the memory changes, and the bytes replaced are kept for
the fetches (20_memory.md R156) and, while paging is on, for the walks (R138) that may still use them. -/
def State.store (s : State) (pas : List Nat) (bs : List Byte) : State :=
  let old := pas.map fun p => (p, s.mem.get p)
  { s with
    mem := Memory.setMany s.mem pas bs
    recent := { old := old, visibleToAll := false, visibleAt := [] } :: s.recent
    ptHistory := if s.pg then old :: s.ptHistory else s.ptHistory }

/-- Several memory operations, one after the other, for consecutive blocks of 128 bytes (42 R290, 48 R468). The spec leaves
their order open, and the lowest block is stored first; memory is the same in every order, and only a stale page-table
entry that straddles two blocks can show it (DESIGN CHOICE, log 48). Every block is stored at the physical
addresses validated before the first, also where a block overwrites the page-table entry that maps a later one; whether that
one translates anew the spec does not say (DESIGN CHOICE, log 42). -/
def State.storeBlocks (s : State) : Nat → List Nat → List Byte → State
  | 0, _, _ => s
  | n + 1, pas, bs => State.storeBlocks (s.store (pas.take 128) (bs.take 128)) n (pas.drop 128) (bs.drop 128)

/-- The stores since the last taken branch, all Execution Visible to every later fetch (20_memory.md R153, R159). -/
def State.allVisible (s : State) : List StoreRecord := s.recent.map fun r => { r with visibleToAll := true }

/-- A byte as it was before some stores, given newest first with the bytes they replaced. -/
def byteBefore (stores : List (List Host.Cell)) (now : Byte) (a : Nat) : Byte :=
  stores.foldl (fun v old => (old.lookup a).getD v) now

/-! ### What a fetch may see (20_memory.md R156) -/

/-- The values a byte has had, newest first, each with the time of the store that wrote it; the stores are given newest
first with their times, and time 0 stands for the store before all of them. -/
def versions : List (Nat × StoreRecord) → Byte → Nat → List (Nat × Byte)
  | [], now, _ => [(0, now)]
  | (t, r) :: rs, now, a =>
    match r.old.lookup a with
    | some before => (t, now) :: versions rs before a
    | none => versions rs now a

/-- Whether a store is Execution Visible to the fetch of the unit at `p`. -/
def StoreRecord.visibleToUnit (r : StoreRecord) (p : Nat) : Bool :=
  r.visibleToAll || r.visibleAt.contains p || r.visibleAt.contains (p + 1)

/-- The versions from the newest back to the latest Execution Visible store (clause 1 of 20_memory.md R156). -/
def sinceVisible (visible : Nat → Bool) : List (Nat × Byte) → List (Nat × Byte)
  | [] => []
  | (t, v) :: vs => if visible t then [(t, v)] else (t, v) :: sinceVisible visible vs

/-- The byte pairs the fetch of the unit at physical address `p` may return (20_memory.md R156): each byte from its latest
Execution Visible store or a later one, and where the store a byte is taken from wrote the other byte too, the other byte
from that store or a later one (clauses 2 and 3). -/
def State.unitChoices (s : State) (p : Nat) : List (Byte × Byte) :=
  let touching := s.recent.filter fun r => (r.old.lookup p).isSome || (r.old.lookup (p + 1)).isSome
  let timed := touching.zipIdx.map fun c => (touching.length - c.2, c.1)
  let visible := fun t => timed.any fun c => c.1 == t && c.2.visibleToUnit p
  let wrote := fun (t a : Nat) => timed.any fun c => c.1 == t && (c.2.old.lookup a).isSome
  let low := sinceVisible visible (versions timed (s.mem.get p) p)
  let high := sinceVisible visible (versions timed (s.mem.get (p + 1)) (p + 1))
  let pairs := low.flatMap fun x => high.filterMap fun y =>
    if (wrote x.1 (p + 1) && decide (y.1 < x.1)) || (wrote y.1 p && decide (x.1 < y.1)) then none
    else some (x.2, y.2)
  pairs.eraseDups

/-- One of several possible values, chosen by a free number; a single possible value does not consult it. -/
def choose {α : Type} (free : Nat) (default : α) : List α → α
  | [] => default
  | [c] => c
  | c :: d :: cs => (c :: d :: cs).getD (free % (cs.length + 2)) default

/-- The two bytes a fetch at address `a` takes from the physical unit at `p` (20_memory.md R155, R156; log 23). -/
def State.fetchUnit (s : State) (a : Word) (p : Nat) : List Byte :=
  let now := (s.mem.get p, s.mem.get (p + 1))
  let got :=
    if s.recent.isEmpty then now else choose (Config.staleUnit s.draws a) now (s.unitChoices p)
  [got.1, got.2]

/-! ### What a page walk may see (20_memory.md R138) -/

/-- The values that the bytes at `ea` have had, newest first, back through the given stores. -/
def entryVersions : List (List Host.Cell) → Nat → List Byte → List (List Byte)
  | [], _, now => [now]
  | old :: rest, ea, now =>
    let before := now.zipIdx.map fun c => (old.lookup (ea + c.2)).getD c.1
    now :: entryVersions rest ea before

/-- The page-table entry at physical address `ea` as a walk for `b` reads it: any value it held since the last page-cache
flush (decision D34; log 24). -/
def State.readEntry (s : State) (b : Word) (ea : Nat) : Word :=
  let now := s.bytesAt ((List.range 8).map (ea + ·))
  let got :=
    if s.ptHistory.isEmpty then now
    else choose (Config.staleEntry s.draws b ea) now (entryVersions s.ptHistory ea now).eraseDups
  BitVec.ofNat 64 (leValue got)

end Sys2Proof.Machine
end

