-- ==== Sys2Proof/Machine/Paging.lean ====
section
/-! DEFINITION. Validation and translation of addresses (20_memory.md sections 2 to 5). -/

namespace Sys2Proof.Machine

/-- What an access does with its bytes (20_memory.md R106). -/
inductive Access
  | read | write | fetch
  deriving DecidableEq, Repr

/-- `access_kind` of the fault record (20_memory.md R132). -/
def Access.code : Access → Byte
  | .read => 0 | .write => 1 | .fetch => 2

/-- A page fault: `addr` is what `fcode` receives (60_exceptions.md R487), the rest the fault record (20_memory.md R132). -/
structure PageFault where
  addr : Word
  pref : Word
  plevel : Byte
  kind : Byte
  status : BitVec 16
  deriving DecidableEq, Repr

/-- `mode.XM` (10_state.md R40). -/
def State.xm (s : State) : Bool := s.mode.getLsbD 32

/-- `cr0.IE` (10_state.md R45). -/
def State.ie (s : State) : Bool := s.cr0.getLsbD 1

/-- `cpuex2.PAS` (10_state.md R55). -/
def State.pas (s : State) : Nat := (field s.cpuex2 2 3).toNat

/-- `cpuex2.VAS` (10_state.md R55). -/
def State.vas (s : State) : Nat := (field s.cpuex2 5 3).toNat

/-- The PTL field of a `cr0` value (10_state.md R45). -/
def ptlOf (cr0 : Word) : Nat := (field cr0 3 3).toNat

/-- The number of virtual address bits of a PTL value (20_memory.md R110). Values above 4 cannot be stored while VAS is at
most 4; they are given no addresses (log 36). -/
def addressBits : Nat → Option Nat
  | 0 => some 32
  | 1 => some 36
  | 2 => some 48
  | 3 => some 56
  | 4 => some 64
  | _ => none

/-- The top table level of a PTL value, the lower page table being level 0 (20_memory.md R110). -/
def topLevel : Nat → Nat
  | 0 => 2
  | n => n + 1

/-- `Canonical(b)`: bits 63 to `B` equal bit `B-1` (20_memory.md R111). -/
def canonical (bits : Nat) (b : Word) : Bool :=
  decide (b.toNat < 2 ^ (bits - 1)) || decide (2 ^ 64 - 2 ^ (bits - 1) ≤ b.toNat)

/-- The index of a virtual address in the table of a level (20_memory.md R112). -/
def tableIndex (bits level : Nat) (b : Word) : Nat := (b.toNat % 2 ^ bits) >>> (12 + 9 * level) % 512

/-- The address part of an entry or of `cr1`: bits 63 to 12 (20_memory.md R118). -/
def addressPart (e : Word) : Nat := e.toNat / 4096 * 4096

/-- The outcome of checking a physical address (20_memory.md R100). -/
inductive PhysCheck
  | valid | outOfRange | absent
  deriving DecidableEq, Repr

/-- `ALLOCATABLE(pa)` (20_memory.md R87, R134). -/
def Params.allocatable (p : Params) (pa : Nat) : Bool :=
  decide (pa < 0x10000) || !p.unbacked.any fun r => decide (r.1 ≤ pa) && decide (pa < r.1 + r.2)

/-- The check of one physical address (20_memory.md R100). -/
def State.physCheck (s : State) (pa : Nat) : PhysCheck :=
  if 2 ^ (32 + 4 * s.pas) ≤ pa then .outOfRange
  else if s.params.allocatable pa then .valid else .absent

/-- The first failure among `n` consecutive physical addresses. -/
def State.physCheckRange (s : State) : Nat → Nat → PhysCheck
  | _, 0 => .valid
  | pa, n + 1 =>
    match s.physCheck pa with
    | .valid => State.physCheckRange s (pa + 1) n
    | bad => bad

/-- The status word of the fault record (20_memory.md R132): XM and XMM, the given flags, NESTED exactly when the level is
above 0, NON_PAGED while paging is off. -/
def State.faultStatus (s : State) (xm : Bool) (level : Byte) (flags : BitVec 16) : BitVec 16 :=
  (if xm then 3 else 0) ||| flags ||| (if level = 0 then 0 else 0x1000) ||| (if s.pg then 0 else 0x400)

/-- The fault of a physical address that is out of range or not present (20_memory.md R132, R134). -/
def State.physFault (s : State) (xm : Bool) (kind : Access) (addr pref : Word) (level : Byte) :
    PhysCheck → PageFault
  | .absent => { addr := addr, pref := pref, plevel := level, kind := 0xff, status := s.faultStatus xm level 0 }
  | _ => { addr := addr, pref := 0, plevel := 0, kind := kind.code, status := s.faultStatus xm 0 0x200 }

/-- The fault of a page entry (20_memory.md R132). -/
def State.entryFault (s : State) (xm : Bool) (kind : Access) (addr entry : Word) (level : Nat)
    (flags : BitVec 16) : PageFault :=
  let l := BitVec.ofNat 8 level
  { addr := addr, pref := entry, plevel := l, kind := kind.code, status := s.faultStatus xm l flags }

/-- VALIDATION_ERROR. -/
def statusValidation : BitVec 16 := 0x100

/-- PREVENTED. -/
def statusPrevented : BitVec 16 := 0x800

/-- The flags of a plain permission failure: VALIDATION_ERROR or none, as the machine has it (U16; log 21). -/
def State.permissionFlags (s : State) : BitVec 16 :=
  if s.params.permissionFailureSetsValidation then statusValidation else 0

/-- The checks every entry of the path passes, lower or nested (20_memory.md R113, R118, R121): reserved bits, presence, XM,
and XMM where it differs from XM (log 20). -/
def State.entryCheck (s : State) (xm : Bool) (kind : Access) (b e : Word) (level : Nat) : Except PageFault Unit :=
  let plain := s.entryFault xm kind b e level s.permissionFlags
  let invalid := s.entryFault xm kind b e level statusValidation
  if field e 5 5 ≠ 0 then .error invalid
  else if level ≠ 0 ∧ 1 < (field e 0 2).toNat then .error invalid
  else if field e 0 2 = 0 then .error plain
  else if xm ∧ e.getLsbD 2 = false then .error plain
  else if e.getLsbD 2 ≠ e.getLsbD 3 then
    if Config.xmmMismatchFaults s.draws b e then .error invalid else .ok ()
  else .ok ()

/-- The checks of a lower page entry against the access (20_memory.md R113, R119, R121); `sxp` is SXP anywhere on the path. A
fetch that SXP prevents is reported with the lower page entry, level 0 and NESTED clear, whichever entry of the path has SXP set:
R132 names "the page entry that caused the fault" and not which that is (DESIGN CHOICE, log 22). -/
def State.leafCheck (s : State) (xm : Bool) (kind : Access) (b e : Word) (sxp : Bool) : Except PageFault Unit :=
  let plain := s.entryFault xm kind b e 0 s.permissionFlags
  if kind = .write ∧ field e 0 2 ≠ 2 then .error plain
  else if kind = .fetch ∧ field e 0 2 ≠ 3 then .error plain
  else if kind = .fetch ∧ sxp ∧ xm = false then .error (s.entryFault xm kind b e 0 statusPrevented)
  else .ok ()

/-- The walk from the table at physical address `t` of a level down to the page (20_memory.md R113). `via` is the entry that
led to the table, with its level, which a table that is not present is reported by (log 22). -/
def State.walk (s : State) (xm : Bool) (kind : Access) (bits : Nat) (b : Word) :
    (level : Nat) → (t : Nat) → (via : Word × Byte) → (sxp : Bool) → Except PageFault Nat
  | level, t, via, sxp =>
    let ea := t + 8 * tableIndex bits level b
    match s.physCheckRange ea 8 with
    | .valid => do
      let e := s.readEntry b ea
      s.entryCheck xm kind b e level
      match level with
      | 0 =>
        s.leafCheck xm kind b e (sxp || e.getLsbD 4)
        let pa := addressPart e + b.toNat % 4096
        match s.physCheck pa with
        | .valid => .ok pa
        | bad => .error (s.physFault xm kind b e 0 bad)
      | l + 1 => State.walk s xm kind bits b l (addressPart e) (e, BitVec.ofNat 8 level) (sxp || e.getLsbD 4)
    | bad => .error (s.physFault xm kind b via.1 via.2 bad)

/-- The translation of one byte address with paging on (20_memory.md R106, R111, R113, R114): `xm` is the mode whose rights
are used. The fault of flag bits in `cr1` (10_state.md R47) sets VALIDATION_ERROR, which R132 says of a nested or lower page entry
only (DESIGN CHOICE, log 22). -/
def State.translateVirtual (s : State) (xm : Bool) (kind : Access) (b : Word) : Except PageFault Nat :=
  let none_ := (Config.faultEntry s.draws, Config.faultLevel s.draws)
  if field s.page 0 12 ≠ 0 then
    .error
      { addr := b, pref := none_.1, plevel := none_.2, kind := kind.code,
        status := s.faultStatus xm none_.2 statusValidation }
  else
    match addressBits (ptlOf s.cr0) with
    | some bits =>
      if canonical bits b then s.walk xm kind bits b (topLevel (ptlOf s.cr0)) (addressPart s.page) none_ false
      else .error (s.physFault xm kind b 0 0 .outOfRange)
    | none => .error (s.physFault xm kind b 0 0 .outOfRange)

/-- The physical address of one byte of an access, or the page fault (20_memory.md R100, R106). -/
def State.translate (s : State) (xm : Bool) (kind : Access) (b : Word) : Except PageFault Nat :=
  if s.pg then s.translateVirtual xm kind b
  else
    match s.physCheck b.toNat with
    | .valid => .ok b.toNat
    | bad => .error (s.physFault xm kind b 0 0 bad)

/-- Whether a later byte of an access lies in the same half of the virtual address space as its first byte
(20_memory.md R111). -/
def State.sameHalf (s : State) (first b : Word) : Bool :=
  match s.pg, addressBits (ptlOf s.cr0) with
  | true, some bits => first.getLsbD (bits - 1) == b.getLsbD (bits - 1)
  | _, _ => true

/-- The physical addresses of the bytes `b`, `b+1`, … of an access that starts at `first`, lowest first. -/
def State.translateFrom (s : State) (xm : Bool) (kind : Access) (first : Word) :
    Nat → Word → Except PageFault (List Nat)
  | 0, _ => .ok []
  | n + 1, b =>
    if s.sameHalf first b then do
      let p ← s.translate xm kind b
      let ps ← State.translateFrom s xm kind first n (b + 1)
      .ok (p :: ps)
    else .error (s.physFault xm kind b 0 0 .outOfRange)

/-- `Validate(addr, n, kind)` (20_memory.md R106): the physical addresses of the `n` bytes, or the page fault of the first
that fails. -/
def State.translateRange (s : State) (xm : Bool) (kind : Access) (addr : Word) (n : Nat) :
    Except PageFault (List Nat) :=
  s.translateFrom xm kind addr n addr

/-! ### The mapping code was entered under (70_reset_and_hazards.md R551) -/

/-- Where a page walk over the bytes `rd` leads, permissions aside, from the table `t` of a level. -/
def pageOf (rd : Nat → Byte) (bits : Nat) (b : Word) : (level : Nat) → (t : Nat) → Option Nat
  | level, t =>
    let ea := t + 8 * tableIndex bits level b
    let e : Word := BitVec.ofNat 64 (leValue ((List.range 8).map fun i => rd (ea + i)))
    match level with
    | 0 => if field e 0 2 = 0 then none else some (addressPart e + b.toNat % 4096)
    | l + 1 => if field e 0 2 = 1 then pageOf rd bits b l (addressPart e) else none

/-- The physical address a paging configuration maps an address to, permissions aside. -/
def PagingView.maps (v : PagingView) (rd : Nat → Byte) (b : Word) : Option Nat :=
  if v.cr0.getLsbD 0 then
    match addressBits (ptlOf v.cr0) with
    | some bits => if canonical bits b then pageOf rd bits b (topLevel (ptlOf v.cr0)) (addressPart v.page) else none
    | none => none
  else some b.toNat

/-- The configuration the running code was entered under. -/
def State.enteredView (s : State) : PagingView := s.codeView.getD { cr0 := s.cr0, page := s.page }

/-- Whether the code address `b` is mapped where it was when the running code was entered: the mapping under the
configuration and the memory of the last taken branch is the mapping now (70_reset_and_hazards.md R551). Nothing is to be
compared when the configuration has not changed and paging is off, or memory has not changed. The store that a transfer makes
itself, a pushed address or a frame, counts as made after it (DESIGN CHOICE, log 49). -/
def State.sameCodePage (s : State) (b : Word) : Bool :=
  if s.codeView.isNone && (!s.pg || s.recent.isEmpty) then true
  else
    let before := fun a => byteBefore (s.recent.map StoreRecord.old) (s.mem.get a) a
    s.enteredView.maps before b == PagingView.maps { cr0 := s.cr0, page := s.page } s.mem.get b

end Sys2Proof.Machine
end

