-- ==== Sys2Proof/Machine/Ops.lean ====
section
/-! DEFINITION. The shared operations over the state: registers and their access rules, stores through translation, the
cache and visibility operations, taking an exception and returning from one, branches and mode changes. -/

namespace Sys2Proof.Machine

/-! ### Outcomes of a meaning -/

/-- A synchronous exception (60_exceptions.md R480). -/
inductive Exc
  | und
  | prot
  | pf (f : PageFault)
  | xa (addr : Word)
  | div
  deriving DecidableEq, Repr

/-- Why an instruction does not complete: an exception to take, or a stop of the model. -/
inductive Trap
  | exc (e : Exc)
  | fault (f : Fault)
  | refuse (r : Refusal)
  deriving DecidableEq, Repr

/-- What an instruction computes: its next state, or why there is none. -/
abbrev Result := Except Trap State

/-- Abandon the instruction with an exception (00_scope.md R10). -/
def raise {α : Type} (e : Exc) : Except Trap α := .error (.exc e)

/-- A check that raises an exception when it fails. -/
def require (ok : Bool) (e : Exc) : Except Trap Unit := if ok then .ok () else raise e

/-- A validation failure as the page fault exception (20_memory.md R130). -/
def paged {α : Type} : Except PageFault α → Except Trap α
  | .ok a => .ok a
  | .error f => raise (.pf f)

/-- The page fault for which no address and no access is involved: enabling paging with flag bits in `cr1` (10_state.md R46) and
`pcfl` (48_supervisor.md R456); every field the spec leaves open is free (log 15). In the status NESTED is set exactly when the
level is above 0, no address is out of range and no execution is prevented (20_memory.md R132). -/
def State.bareFault (s : State) : PageFault :=
  { addr := Config.faultAddress s.draws
    pref := Config.faultEntry s.draws
    plevel := Config.faultLevel s.draws
    kind := Config.faultKind s.draws
    status :=
      (Config.faultStatus s.draws &&& (if s.pg then 0x100 else 0x500)) ||| (if s.xm then 3 else 0) |||
        (if Config.faultLevel s.draws = 0 then 0 else 0x1000) }

/-! ### Registers -/

/-- The value of general register `i`. -/
def State.r (s : State) (i : BitVec 4) : Word := s.gpr[i.toNat]

/-- Replace general register `i`. -/
def State.setR (s : State) (i : BitVec 4) (v : Word) : State := { s with gpr := s.gpr.set i.toNat v }

/-- The stack pointer (10_state.md R21). -/
abbrev State.sp (s : State) : Word := s.r 7

/-- Access classes of register numbers (10_state.md R21, R22). -/
inductive RegClass
  | general | readonly | flags | reserved | supervisor | cpuInfo
  deriving DecidableEq, Repr

/-- The class of a register number (10_state.md R21). -/
def regClass (r : BitVec 8) : RegClass :=
  let n := r.toNat
  if n < 16 then .general
  else if n = 16 ∨ n = 18 then .readonly
  else if n = 17 then .flags
  else if 128 ≤ n ∧ n ≤ 135 then .supervisor
  else if 136 ≤ n ∧ n ≤ 143 then .cpuInfo
  else if n = 144 ∨ n = 145 then .supervisor
  else if 148 ≤ n ∧ n ≤ 154 then .supervisor
  else .reserved

/-- Whether a register number is one of `msr0` to `msr6` (10_state.md R60). -/
def isMsr (r : BitVec 8) : Bool := decide (148 ≤ r.toNat) && decide (r.toNat ≤ 154)

/-- The address an instruction observes as the value of `ip`, given that of the following instruction (10_state.md R26, decision
D1; log 10). -/
def State.observedIp (s : State) (nip : Word) : Word :=
  match s.params.ipRelBase with
  | .following => nip
  | .current => s.ip

/-- The value of `msr0` to `msr6`, by number from 0; 0 where the machine has none (48_supervisor.md R468; log 27). -/
def State.msrValue (s : State) (i : Nat) : Word :=
  match s.params.msrModel with
  | .refuse => 0
  | .storage => s.msr.toList.getD i 0

/-- The 64-bit value of a register, `ip` reading as the given address (10_state.md R24, R26). A number
without a register reads 0 (the image instructions store 0 for it, 42_bulk_registers.md R295). -/
def State.readReg (s : State) (ip : Word) (r : BitVec 8) : Word :=
  if h : r.toNat < 16 then s.gpr[r.toNat]
  else
    match r.toNat with
    | 16 => ip
    | 17 => s.flags
    | 18 => s.mode
    | 128 => s.cr0
    | 129 => s.page
    | 130 => s.flprotect
    | 131 => s.scdp
    | 132 => s.scsp
    | 133 => s.sccr
    | 134 => s.itabp
    | 135 => s.ciread
    | 136 => s.cpuidlo
    | 137 => s.cpuidhi
    | 138 => s.cpuex2
    | 139 => s.cpuex3
    | 140 => s.cpuex4
    | 141 => s.cpuex5
    | 142 => s.cpuex6
    | 143 => s.mscpuex
    | 144 => s.fcode
    | 145 => s.pfcharp
    | n => if isMsr r then s.msrValue (n - 148) else 0

/-- An explicit write to `flags` (10_state.md R31). -/
def State.writeFlags (s : State) (v : Word) : State :=
  let w := if s.xm then flagsMask &&& ~~~s.flprotect else flagsMask
  { s with flags := (s.flags &&& ~~~w) ||| (v &&& w) }

/-- Drop all cached translations of this CPU (48_supervisor.md R456). -/
def State.dropTranslations (s : State) : State := { s with ptHistory := [] }

/-- Record a synchronization operation (20_memory.md R151). -/
def State.sync (s : State) (op : SyncOp) : State := { s with syncOrder := op :: s.syncOrder }

/-- The effect of `dflush` followed by `pcfl` that a change of `cr1` or `cr0.PG` has (10_state.md R46, R47). The rules name
`dflush` without an operand: the flush recorded is of every byte (DESIGN CHOICE, log 46). -/
def State.impliedFlush (s : State) : State :=
  ((s.sync .dataFlushAll).sync .pageFlush).dropTranslations

/-- Replace `cr0` and `cr1`: a change of `cr1` or of `cr0.PG` flushes (10_state.md R46, R47), and a change of PG, PTL or `cr1`
is remembered until the next taken branch (70_reset_and_hazards.md R551). Writing the value held flushes nothing, where R70 and
R551 speak of a write and R46, R47 and 20_memory.md R138 of a change (DESIGN CHOICE, log 46). -/
def State.setPaging (s : State) (cr0 page : Word) : State :=
  let switched := s.pg != cr0.getLsbD 0 || s.page != page
  let remapped := switched || ptlOf s.cr0 != ptlOf cr0
  let s' :=
    { s with
      cr0 := cr0
      page := page
      codeView := if remapped then some s.enteredView else s.codeView }
  if switched then s'.impliedFlush else s'

/-- The machine-specific registers with register number `n` replaced, if it is one of 148 to 154 (10_state.md R60). -/
def setMsr (msr : Vector Word 7) (n : Nat) (v : Word) : Vector Word 7 :=
  if 148 ≤ n then msr.setIfInBounds (n - 148) v else msr

/-- Write a 64-bit value to a register that writeback validation admits (10_state.md R24, R31, R46 to R53). -/
def State.writeReg (s : State) (r : BitVec 8) (v : Word) : State :=
  if h : r.toNat < 16 then { s with gpr := s.gpr.set r.toNat v }
  else
    match r.toNat with
    | 17 => s.writeFlags v
    | 128 => s.setPaging v s.page
    | 129 => s.setPaging s.cr0 v
    | 130 => { s with flprotect := v }
    | 131 => { s with scdp := v }
    | 132 => { s with scsp := v }
    | 133 => { s with sccr := v }
    | 134 => { s with itabp := v }
    | 135 => { s with ciread := v }
    | 144 => { s with fcode := v }
    | 145 => { s with pfcharp := v }
    | n => { s with msr := setMsr s.msr n v }

/-- Whether a `cr0` value may be stored: no reserved bit, and PTL at most VAS (10_state.md R45, R46). -/
def State.cr0Legal (s : State) (v : Word) : Bool := v &&& ~~~0x3B#64 == 0 && decide (ptlOf v ≤ s.vas)

/-- Writeback validation of register `r` receiving `v` (60_exceptions.md R498), the PF for enabling paging with flag bits in
`cr1` (10_state.md R46), and for a machine-specific register its refusal or the implementation's own check (10_state.md R60;
log 27). -/
def State.writebackCheck (s : State) (r : BitVec 8) (v : Word) : Except Trap Unit :=
  match r.toNat with
  | 16 => raise .und
  | 18 => raise .und
  | 128 =>
    if s.cr0Legal v then
      if v.getLsbD 0 ∧ s.pg = false ∧ field s.page 0 12 ≠ 0 then raise (.pf s.bareFault) else .ok ()
    else raise .und
  | 130 => require (v &&& ~~~flagsMask == 0) .und
  | 133 => require (v &&& ~~~0x2#64 == 0) .und
  | 135 => require (v &&& ~~~0xFF#64 == 0) .und
  | n =>
    if 136 ≤ n ∧ n ≤ 143 then raise .und
    else if isMsr r then
      match s.params.msrModel with
      | .refuse => .error (.refuse (.machineSpecificRegister n))
      | .storage => require (!Config.msrRejects s.draws n v) .und
    else .ok ()

/-! ### Accesses -/

/-- Validate an access in the current mode (20_memory.md R105, R106). -/
def State.validate (s : State) (kind : Access) (addr : Word) (n : Nat) : Except Trap (List Nat) :=
  paged (s.translateRange s.xm kind addr n)

/-- Validate an access with supervisor rights (decisions D3, D27, D40). -/
def State.validateSupervisor (s : State) (kind : Access) (addr : Word) (n : Nat) : Except Trap (List Nat) :=
  paged (s.translateRange false kind addr n)

/-- The value of `n` bytes at consecutive physical addresses, if all are valid (20_memory.md R100). -/
def State.readPhys (s : State) (pa n : Nat) : Option Nat :=
  match s.physCheckRange pa n with
  | .valid => some (s.load ((List.range n).map (pa + ·)))
  | _ => none

/-! ### Control transfers -/

/-- The effect of every taken branch on what fetches see: all earlier stores of this CPU become Execution Visible
(20_memory.md R160), and the mapping in force is the one the code is entered under (70_reset_and_hazards.md R551). R160 quotes
"including modifications to the page table" and decides only for stores to code; this model reads R138 as leaving the page caches
alone over a branch, so that the walks of the destination may still use an old entry (DESIGN CHOICE, log 24). -/
def State.codeSync (s : State) : State := { s with recent := [], codeView := none }

/-- The checks of a branch destination, with the rights of the mode the destination runs in (46_branches.md R394, R396). -/
def State.checkDestination (s : State) (xm : Bool) (d : Word) : Except Trap Unit := do
  require (!d.getLsbD 0) (.xa d)
  let _ ← paged (s.translateRange xm .fetch d 1)
  .ok ()

/-- `TakeBranch(d)` after its checks (46_branches.md R395). -/
def State.jump (s : State) (d : Word) : State := { s.codeSync with ip := d }

/-- `TakeBranch(d)` in the current mode (46_branches.md R395). -/
def State.takeBranch (s : State) (d : Word) : Result := do
  s.checkDestination s.xm d
  .ok (s.jump d)

/-- `mode` with XM and XMM cleared (60_exceptions.md R504). -/
def supervisorMode (m : Word) : Word := m &&& ~~~(3#64 <<< 32)

/-- A `mode` value as an instruction that makes no check loads it (10_state.md R42, 47 R440, R441, 48 R467): XM is bit 32 of
`m`. Where an undefined bit is set, or XMM differs from XM, the source defines no outcome, and those bits are free (U12;
log 19). -/
def State.loadedMode (s : State) (m : Word) : Word :=
  let undefinedBits := m &&& ~~~(3#64 <<< 32)
  let mirror : Word := if m.getLsbD 32 = m.getLsbD 33 then 0 else 1#64 <<< 33
  let free := undefinedBits ||| mirror
  if free = 0 then m else (m &&& ~~~free) ||| (Config.modeBits s.draws &&& free)

/-! ### Delivery of exceptions and interrupts (60_exceptions.md section 4) -/

/-- Why an entry cannot be made (60_exceptions.md R507). -/
inductive EntryFailure
  | misaligned
  | outOfBounds
  | unserviceable
  deriving DecidableEq, Repr

/-- The interrupt table's `extent` field (60_exceptions.md R500). -/
def State.tableExtent (s : State) : Except EntryFailure Nat :=
  if s.itabp.toNat % 32 ≠ 0 then .error .misaligned
  else
    match s.readPhys s.itabp.toNat 8 with
    | some e => .ok e
    | none => .error .unserviceable

/-- An entry of the interrupt table (60_exceptions.md R501). -/
structure TableEntry where
  handler : Word
  stack : Word
  px : Bool
  deriving DecidableEq, Repr

/-- Entry `n` of the interrupt table (60_exceptions.md R501, R502). -/
def State.tableEntry (s : State) (n : Nat) : Except EntryFailure TableEntry := do
  let extent ← s.tableExtent
  if extent < 32 * n + 32 then .error .outOfBounds
  else
    let at_ := s.itabp.toNat + 32 + 32 * n
    match s.physCheckRange at_ 32 with
    | .valid =>
      let word := fun i => BitVec.ofNat 64 (s.load ((List.range 8).map (at_ + 8 * i + ·)))
      .ok { handler := word 0, stack := word 1, px := (word 2).getLsbD 0 }
    | _ => .error .unserviceable

/-- The entry sequence for number `n` with the given frame, lowest address first (60_exceptions.md R504). A frame that moves the
handler's page counts as stored after the transfer (DESIGN CHOICE, log 49). -/
def State.enter (s : State) (n : Nat) (frame : List Word) : Except EntryFailure State := do
  let e ← s.tableEntry n
  let newsp := (if e.stack = 0 then s.sp else e.stack) - 32
  match s.translateRange false .write newsp 32, e.handler.getLsbD 0, s.translateRange false .fetch e.handler 1 with
  | .ok pas, false, .ok _ =>
    .ok
      { (((s.jump e.handler).store pas (wordsBytes frame)).setR 7 newsp) with
        mode := supervisorMode s.mode
        halted := false }
  | _, _, _ => .error .unserviceable

/-- The frame of an exception or interrupt (60_exceptions.md R504). -/
def State.frame (s : State) (sip : Word) : List Word := [sip, s.mode, s.flags, s.sp]

/-- The frame of ABRT: "may be anything" (60_exceptions.md R505; log 16). -/
def State.abortFrame (s : State) : List Word := (List.range 4).map (Config.abortFrame s.draws)

/-- A reset during operation (70_reset_and_hazards.md R542): the registers take the values of 10_state.md R65, those left
undefined there being free (log 17); the page caches are flushed; memory, devices and pending requests stay. A pending event may be
taken before the first instruction after it, also where a failed delivery caused the reset (DESIGN CHOICE, log 17). -/
def State.cpuReset (s : State) : State :=
  let free := Config.resetRegister s.draws
  { s with
    gpr := Vector.ofFn fun i => free i.val
    ip := 0xff00
    flags := 0
    mode := 0
    cr0 := 0
    page := free 129
    flprotect := 0
    scdp := free 131
    scsp := free 132
    sccr := free 133
    itabp := free 134
    ciread := 0
    fcode := free 144
    pfcharp := free 145
    msr := Vector.ofFn fun i => free (148 + i.val)
    ptHistory := []
    codeView := none
    halted := false
    eventsHeld := false }

/-- Deliver ABRT; a failure resets the CPU (60_exceptions.md R507). `fcode` receives 0 (R487). -/
def State.deliverAbort (s : State) : State :=
  match { s with fcode := 0 }.enter 0 s.abortFrame with
  | .ok t => t
  | .error _ => s.cpuReset

/-- Deliver an exception, a number up to 15 (60_exceptions.md R504, R507). -/
def State.deliverException (s : State) (n : Nat) (sip : Word) : State :=
  match s.enter n (s.frame sip) with
  | .ok t => t
  | .error .misaligned => s.cpuReset
  | .error _ => s.deliverAbort

/-- Deliver any number (60_exceptions.md R504, R507): a software interrupt or IRQ beyond the table becomes PROT with the same
saved `ip`, and a Debug Trap that cannot be serviced is dropped (R515): execution goes on at the saved `ip` as after a taken
branch, earlier stores Execution Visible, which the rule does not say of an injected trap (DESIGN CHOICE, log 32). -/
def State.deliver (s : State) (n : Nat) (sip : Word) : State :=
  if n ≤ 15 then s.deliverException n sip
  else
    match s.enter n (s.frame sip) with
    | .ok t => t
    | .error .misaligned => s.cpuReset
    | .error .outOfBounds => { s with fcode := 0 }.deliverException 2 sip
    | .error .unserviceable => if n = 16 then s.jump sip else s.deliverAbort

/-- The fault record as bytes (20_memory.md R132). -/
def PageFault.record (f : PageFault) : List Byte :=
  leBytes 8 f.pref.toNat ++ [f.plevel, f.kind] ++ leBytes 2 f.status.toNat ++ leBytes 4 0

/-- Take a page fault: `fcode`, then the fault record when `pfcharp` is not 0, then delivery; ABRT instead when the record
cannot be written (20_memory.md R133). -/
def State.takePageFault (s : State) (f : PageFault) : State :=
  let s := { s with fcode := f.addr }
  if s.pfcharp = 0 then s.deliverException 3 s.ip
  else if s.pfcharp.toNat % 16 ≠ 0 then s.deliverAbort
  else
    match s.translateRange false .write s.pfcharp 16 with
    | .ok pas => (s.store pas f.record).deliverException 3 s.ip
    | .error _ => s.deliverAbort

/-- TAKING AN EXCEPTION raised by the instruction at `ip`: `fcode` (60_exceptions.md R487; free for UND and DIV, log 14), then the
entry sequence with the instruction's own address saved (R504, R505). -/
def State.takeException (s : State) : Exc → State
  | .und => { s with fcode := Config.freeFcode s.draws }.deliverException 1 s.ip
  | .prot => { s with fcode := 0 }.deliverException 2 s.ip
  | .pf f => s.takePageFault f
  | .xa a => { s with fcode := a }.deliverException 4 s.ip
  | .div => { s with fcode := Config.freeFcode s.draws }.deliverException 6 s.ip

/-- RETURNING FROM ONE: pop `ip`, `mode`, `flags` and `r7` (47_forcing_transfers.md R441). -/
def State.returnFromException (s : State) : Result := do
  let pas ← s.validate .read s.sp 32
  let d := s.loadSlot pas 0
  let m := s.loadSlot pas 1
  let fl := s.loadSlot pas 2
  let sp := s.loadSlot pas 3
  s.checkDestination (m.getLsbD 32) d
  .ok { ((s.jump d).setR 7 sp) with flags := fl &&& flagsMask, mode := s.loadedMode m }

/-! ### Ending an instruction -/

/-- The next state of an instruction: what it computes, or the exception taken from the state before it, which it has not
changed (60_exceptions.md R484), or a stop. -/
def finish (s : State) : Result → Host.Outcome State Fault Refusal
  | .ok t => .next t
  | .error (.exc e) => .next (s.takeException e)
  | .error (.fault f) => .fault f
  | .error (.refuse r) => .refused r

/-- The check of a supervisor instruction (48_supervisor.md R450; 30_encoding.md R203). -/
def State.requireSupervisor (s : State) : Except Trap Unit := require (!s.xm) .prot

end Sys2Proof.Machine
end

