-- ==== Sys2Proof/Machine/Operands.lean ====
section
/-! DEFINITION. The operands when an instruction executes (30_encoding.md R185 to R196): what each stands for, the checks on
register numbers, and reading and writing them. -/

namespace Sys2Proof.Machine

/-- What an operand stands for once its address is computed (30_encoding.md R190): a register and a size, the memory at
an address and a size, or a value and its width in bits. -/
inductive Place
  | reg (r : BitVec 8) (z : Size)
  | mem (addr : Word) (z : Size)
  | imm (v : Word) (bits : Nat)
  deriving DecidableEq, Repr

/-- `Bits(op)` (30_encoding.md R191). -/
def Place.bits : Place → Nat
  | .reg _ z => z.bits
  | .mem _ z => z.bits
  | .imm _ n => n

/-- Whether an operand is a memory operand. -/
def Place.isMem : Place → Bool
  | .mem _ _ => true
  | _ => false

/-- Whether an operand is an immediate, `ip`-relative or not. -/
def Place.isImm : Place → Bool
  | .imm _ _ => true
  | _ => false

/-- Whether an operand is a direct register. -/
def Place.isReg : Place → Bool
  | .reg _ _ => true
  | _ => false

/-- Whether an operand is register number `n`. -/
def Place.isRegister (n : BitVec 8) : Place → Bool
  | .reg r _ => r == n
  | _ => false

/-- Whether an operand is a general register. -/
def Place.isGpr : Place → Bool
  | .reg r _ => decide (r.toNat < 16)
  | _ => false

/-- The value of an immediate, zero-extended. -/
def immZext : SizedImm → Word
  | .i16 v => v.setWidth 64
  | .i32 v => v.setWidth 64
  | .i64 v => v

/-- The value of an immediate, sign-extended. -/
def immSext : SizedImm → Word
  | .i16 v => v.signExtend 64
  | .i32 v => v.signExtend 64
  | .i64 v => v

/-- The address of the following instruction, for an instruction of `len` bytes (30_encoding.md R172). -/
def State.nextIp (s : State) (len : Nat) : Word := s.ip + BitVec.ofNat 64 len

/-- What an operand stands for in a state (30_encoding.md R181 to R183, R190, R196); `nip` is the address of the following
instruction, from which the observed `ip` follows (decision D1; log 10). -/
def State.place (s : State) (nip : Word) : Operand → Place
  | .reg z r => .reg r z
  | .ind o sc k z base =>
    let offset : Word := if k then o.setWidth 64 else s.r o
    .mem (s.r base + (offset <<< sc.toNat)) z
  | .short rel i => if rel then .imm (i.signExtend 64 + s.observedIp nip) 64 else .imm (i.setWidth 64) 12
  | .long rel i => if rel then .imm (immSext i + s.observedIp nip) 64 else .imm (immZext i) i.bits
  | .memRef rel z i => .mem (if rel then immSext i + s.observedIp nip else immZext i) z

/-- Whether an operand names a register that program mode may not name (10_state.md R22, R53). -/
def State.protectedOperand (s : State) : Operand → Bool
  | .reg _ r =>
    match regClass r with
    | .supervisor => true
    | .cpuInfo => !s.ciread.getLsbD (r.toNat - 136)
    | _ => false
  | _ => false

/-- Whether an operand names a reserved register. -/
def reservedOperand : Operand → Bool
  | .reg _ r => regClass r == .reserved
  | _ => false

/-- The checks of all operands once they are fetched (30_encoding.md R186; 60_exceptions.md R493). -/
def State.checkOperands (s : State) (ops : List Operand) : Except Trap Unit := do
  require (!ops.any reservedOperand) .und
  require (!(s.xm && ops.any s.protectedOperand)) .prot

/-- The value of a register operand of a size (10_state.md R24); a machine-specific register may be refused (10_state.md R60),
here, where it is read: before the validation of an operand read or opened later. The spec does not place the refusal among the
steps (DESIGN CHOICE, log 27). -/
def State.readRegister (s : State) (nip : Word) (r : BitVec 8) (z : Size) : Except Trap Word :=
  if isMsr r ∧ s.params.msrModel = .refuse then .error (.refuse (.machineSpecificRegister r.toNat))
  else .ok (truncBits z.bits (s.readReg (s.observedIp nip) r))

/-- The little-endian value at validated physical addresses. -/
def State.loadWord (s : State) (pas : List Nat) : Word := BitVec.ofNat 64 (s.load pas)

/-- Validate a source operand for reading and read it (30_encoding.md R193; 20_memory.md R106). -/
def State.readPlace (s : State) (nip : Word) : Place → Except Trap Word
  | .reg r z => s.readRegister nip r z
  | .mem addr z => do
    let pas ← s.validate .read addr z.bytes
    .ok (s.loadWord pas)
  | .imm v _ => .ok v

/-- A destination operand whose memory is validated. -/
inductive Target
  | reg (r : BitVec 8) (z : Size)
  | mem (pas : List Nat)
  deriving DecidableEq, Repr

/-- Validate a destination operand for writing (20_memory.md R106); an immediate is UND (30_encoding.md R187). -/
def State.openTarget (s : State) : Place → Except Trap Target
  | .reg r z => .ok (.reg r z)
  | .mem addr z => do
    let pas ← s.validate .write addr z.bytes
    .ok (.mem pas)
  | .imm _ _ => raise .und

/-- The value a destination holds before the instruction. -/
def State.readTarget (s : State) (nip : Word) : Target → Except Trap Word
  | .reg r z => s.readRegister nip r z
  | .mem pas => .ok (s.loadWord pas)

/-- Writeback validation of a destination receiving `v`, which fits it (60_exceptions.md R498). -/
def State.checkTarget (s : State) (v : Word) : Target → Except Trap Unit
  | .reg r _ => s.writebackCheck r v
  | .mem _ => .ok ()

/-- Store `v`, which fits the destination, after its checks (30_encoding.md R194). -/
def State.setTarget (s : State) (v : Word) : Target → State
  | .reg r _ => s.writeReg r v
  | .mem pas => s.store pas (leBytes pas.length v.toNat)

/-- `Write(op, v)` for a value that fits the destination (30_encoding.md R194). -/
def State.writeTarget (s : State) (t : Target) (v : Word) : Result := do
  s.checkTarget v t
  .ok (s.setTarget v t)

/-- Complete an instruction that does not transfer control (10_state.md R27). -/
def State.advance (s : State) (nip : Word) : State := { s with ip := nip }

/-- Replace the flags that an instruction computes (10_state.md R36). -/
def State.withFlags (s : State) (fl : Word) : State := { s with flags := fl }

end Sys2Proof.Machine
end

