-- ==== Sys2Proof/Machine/Alu.lean ====
section
/-! DEFINITION. Addition, subtraction and bitwise logic (40_undefined_alu_muldiv.md section 2, 43_convert_shift_unary.md section 5). -/

namespace Sys2Proof.Machine

/-- The operand checks of the two-operand arithmetic and shift instructions, step 6 (40_undefined_alu_muldiv.md R232,
43_convert_shift_unary.md R313). -/
def checkAluOperands (l : Bool) (p q : Place) : Except Trap Unit := do
  require (!p.isImm) .und
  require (p.isGpr || q.isImm || q.isGpr) .und
  require (!l || p.isMem) .und
  require (!(p.isRegister 17 || p.isRegister 16)) .und

/-- `ALU2(f, FlagsOf)` (40_undefined_alu_muldiv.md R232). With `l` the access to operand 1 is one locked read-modify-write,
which one CPU cannot tell from a load and a store (log 35). -/
def alu2 (f : Word → Word → Word) (fl : Word → Word → Word → Nat → Word) (l nf : Bool) (a b : Operand)
    (s : State) : Result := do
  let nip := s.nextIp (2 + a.length + b.length)
  s.checkOperands [a, b]
  let p := s.place nip a
  let q := s.place nip b
  checkAluOperands l p q
  let y ← s.readPlace nip q
  let t ← s.openTarget p
  let x ← s.readTarget nip t
  let s' ← s.writeTarget t (truncBits p.bits (f x y))
  let s' := if nf then s' else s'.withFlags (fl s.flags x y p.bits)
  .ok (s'.advance nip)

/-- `ALUR(f, FlagsOf)`: the destination is a general register (43_convert_shift_unary.md R337). -/
def aluToGpr (f : Word → Word → Word) (fl : Word → Word → Word → Nat → Word) (r : BitVec 4) (a : Operand)
    (s : State) : Result := do
  let nip := s.nextIp (2 + a.length)
  s.checkOperands [a]
  let y ← s.readPlace nip (s.place nip a)
  .ok (((s.setR r (f (s.r r) y)).withFlags (fl s.flags (s.r r) y 64)).advance nip)

/-- `ALUS(f, FlagsOf)`: the second source is a general register (43_convert_shift_unary.md R343). -/
def aluFromGpr (f : Word → Word → Word) (fl : Word → Word → Word → Nat → Word) (r : BitVec 4) (a : Operand)
    (s : State) : Result := do
  let nip := s.nextIp (2 + a.length)
  s.checkOperands [a]
  let p := s.place nip a
  require (!p.isImm) .und
  require (!(p.isRegister 16 || p.isRegister 17)) .und
  let t ← s.openTarget p
  let x ← s.readTarget nip t
  let s' ← s.writeTarget t (truncBits p.bits (f x (s.r r)))
  .ok ((s'.withFlags (fl s.flags x (s.r r) p.bits)).advance nip)

/-- `Logic(A, B, n)`: the flags of a bitwise operation (40_undefined_alu_muldiv.md R235). -/
def logicOf (f : Word → Word → Word) (fl x y : Word) (n : Nat) : Word := logicFlags fl (truncBits n (f x y)) n

/-- Bitwise and. -/
def bitAnd (x y : Word) : Word := x &&& y

/-- Bitwise or. -/
def bitOr (x y : Word) : Word := x ||| y

/-- Bitwise exclusive or. -/
def bitXor (x y : Word) : Word := x ^^^ y

/-- Addition modulo `2^64`. -/
def wordAdd (x y : Word) : Word := x + y

/-- Subtraction modulo `2^64`. -/
def wordSub (x y : Word) : Word := x - y

/-- `add` (40_undefined_alu_muldiv.md R233). -/
def execAdd (l : Bool) (f : Bool) (a : Operand) (b : Operand) (s : State) : Host.Outcome State Fault Refusal :=
  finish s (alu2 wordAdd addFlags l f a b s)

/-- `sub` (40_undefined_alu_muldiv.md R234). -/
def execSub (l : Bool) (f : Bool) (a : Operand) (b : Operand) (s : State) : Host.Outcome State Fault Refusal :=
  finish s (alu2 wordSub subFlags l f a b s)

/-- `and` (40_undefined_alu_muldiv.md R235). -/
def execAnd (l : Bool) (f : Bool) (a : Operand) (b : Operand) (s : State) : Host.Outcome State Fault Refusal :=
  finish s (alu2 bitAnd (logicOf bitAnd) l f a b s)

/-- `or` (40_undefined_alu_muldiv.md R236). -/
def execOr (l : Bool) (f : Bool) (a : Operand) (b : Operand) (s : State) : Host.Outcome State Fault Refusal :=
  finish s (alu2 bitOr (logicOf bitOr) l f a b s)

/-- `xor` (40_undefined_alu_muldiv.md R237). -/
def execXor (l : Bool) (f : Bool) (a : Operand) (b : Operand) (s : State) : Host.Outcome State Fault Refusal :=
  finish s (alu2 bitXor (logicOf bitXor) l f a b s)

/-- `add.togpr` (43_convert_shift_unary.md R338). -/
def execAddTogpr (r : BitVec 4) (a : Operand) (s : State) : Host.Outcome State Fault Refusal :=
  finish s (aluToGpr wordAdd addFlags r a s)

/-- `sub.togpr` (43_convert_shift_unary.md R339). -/
def execSubTogpr (r : BitVec 4) (a : Operand) (s : State) : Host.Outcome State Fault Refusal :=
  finish s (aluToGpr wordSub subFlags r a s)

/-- `and.togpr` (43_convert_shift_unary.md R340). -/
def execAndTogpr (r : BitVec 4) (a : Operand) (s : State) : Host.Outcome State Fault Refusal :=
  finish s (aluToGpr bitAnd (logicOf bitAnd) r a s)

/-- `or.togpr` (43_convert_shift_unary.md R341). -/
def execOrTogpr (r : BitVec 4) (a : Operand) (s : State) : Host.Outcome State Fault Refusal :=
  finish s (aluToGpr bitOr (logicOf bitOr) r a s)

/-- `xor.togpr` (43_convert_shift_unary.md R342). -/
def execXorTogpr (r : BitVec 4) (a : Operand) (s : State) : Host.Outcome State Fault Refusal :=
  finish s (aluToGpr bitXor (logicOf bitXor) r a s)

/-- `add.fromgpr` (43_convert_shift_unary.md R344). -/
def execAddFromgpr (r : BitVec 4) (a : Operand) (s : State) : Host.Outcome State Fault Refusal :=
  finish s (aluFromGpr wordAdd addFlags r a s)

/-- `sub.fromgpr` (43_convert_shift_unary.md R345). -/
def execSubFromgpr (r : BitVec 4) (a : Operand) (s : State) : Host.Outcome State Fault Refusal :=
  finish s (aluFromGpr wordSub subFlags r a s)

/-- `and.fromgpr` (43_convert_shift_unary.md R346). -/
def execAndFromgpr (r : BitVec 4) (a : Operand) (s : State) : Host.Outcome State Fault Refusal :=
  finish s (aluFromGpr bitAnd (logicOf bitAnd) r a s)

/-- `or.fromgpr` (43_convert_shift_unary.md R347). -/
def execOrFromgpr (r : BitVec 4) (a : Operand) (s : State) : Host.Outcome State Fault Refusal :=
  finish s (aluFromGpr bitOr (logicOf bitOr) r a s)

/-- `xor.fromgpr` (43_convert_shift_unary.md R348). -/
def execXorFromgpr (r : BitVec 4) (a : Operand) (s : State) : Host.Outcome State Fault Refusal :=
  finish s (aluFromGpr bitXor (logicOf bitXor) r a s)

end Sys2Proof.Machine
end

