-- ==== Sys2Proof/Machine/Atomic.lean ====
section
/-! DEFINITION. Atomic operations and the memory fence (45_atomic_fence.md). -/

namespace Sys2Proof.Machine

/-- The checks of the atomic operations on their first two operands, step 6 (45_atomic_fence.md R370 to R372). -/
def checkAtomicOperands (p q : Place) : Except Trap Unit := do
  require (!(p.isImm || q.isImm)) .und
  require (p.isReg || q.isReg) .und
  require (!(p.isRegister 16 || p.isRegister 17 || q.isRegister 16 || q.isRegister 17)) .und

/-- `xchg` (45_atomic_fence.md R371). Both writeback validations precede both writes (60_exceptions.md R498). Where operand 1 is
`cr0` or `cr1`, whose write changes the mapping, operand 2 in memory is stored at the physical addresses that were validated
before it; the spec does not say whether the later store translates anew (DESIGN CHOICE, log 42). -/
def exchange (a b : Operand) (s : State) : Result := do
  let nip := s.nextIp (2 + a.length + b.length)
  s.checkOperands [a, b]
  let p := s.place nip a
  let q := s.place nip b
  checkAtomicOperands p q
  let t ← s.openTarget p
  let u ← s.openTarget q
  let y ← s.readTarget nip u
  let x ← s.readTarget nip t
  s.checkTarget (truncBits p.bits y) t
  s.checkTarget (truncBits q.bits x) u
  .ok (((s.setTarget (truncBits p.bits y) t).setTarget (truncBits q.bits x) u).advance nip)

/-- `cmpxchg`, and `wcmpxchg` when `fails` may be true: operand 1 is always stored to; Z tells whether the new value was
stored, and otherwise operand 2 receives the observed value (45_atomic_fence.md R372, R373). Where operand 1 is a narrow `cr1`,
which the truncated old value changes, operand 2 in memory is stored at the physical addresses that were validated before it;
the spec does not say whether that store translates anew (DESIGN CHOICE, log 42). -/
def compareExchange (fails : Bool) (a b c : Operand) (s : State) : Result := do
  let nip := s.nextIp (2 + a.length + b.length + c.length)
  s.checkOperands [a, b, c]
  let p := s.place nip a
  let q := s.place nip b
  checkAtomicOperands p q
  let t ← s.openTarget p
  let u ← s.openTarget q
  let new ← s.readPlace nip (s.place nip c)
  let expected ← s.readTarget nip u
  let old ← s.readTarget nip t
  let same := old == expected && !fails
  let stored := if same then truncBits p.bits new else old
  let observed := truncBits q.bits old
  s.checkTarget stored t
  let s' := (s.setTarget stored t).withFlags (putBit s.flags bitZ same)
  match s.checkTarget observed u with
  | .ok _ => .ok ((if same then s' else s'.setTarget observed u).advance nip)
  | .error e => if same then .ok (s'.advance nip) else .error e

/-- `fence` (45_atomic_fence.md R380): the stores made so far are Execution Visible afterwards, as 70_reset_and_hazards.md R550
lists it, which R153 and R380 do not say (DEDUCED, log 44). -/
def fenceCore (s : State) : Result := .ok { (s.sync .fence).advance (s.nextIp 2) with recent := s.allVisible }

/-- `xchg` (45_atomic_fence.md R371). -/
def execXchg (a : Operand) (b : Operand) (s : State) : Host.Outcome State Fault Refusal := finish s (exchange a b s)

/-- `cmpxchg` (45_atomic_fence.md R372). -/
def execCmpxchg (a : Operand) (b : Operand) (c : Operand) (s : State) : Host.Outcome State Fault Refusal :=
  finish s (compareExchange false a b c s)

/-- `wcmpxchg` (45_atomic_fence.md R373). -/
def execWcmpxchg (a : Operand) (b : Operand) (c : Operand) (s : State) : Host.Outcome State Fault Refusal :=
  finish s (compareExchange (Config.spuriousFailure s.draws) a b c s)

/-- `fence` (45_atomic_fence.md R380). -/
def execFence (s : State) : Host.Outcome State Fault Refusal := finish s (fenceCore s)

end Sys2Proof.Machine
end

