-- ==== Sys2Proof/Machine/Branch.lean ====
section
/-! DEFINITION. Conditional and unconditional branches (46_branches.md). -/

namespace Sys2Proof.Machine

/-- `BranchDest(r, imm, n)`: the immediate, or the observed `ip` plus it (46_branches.md R395, decisions D1, D17; log 10). -/
def State.branchDest (s : State) (rel : Bool) (d : SizedImm) : Word :=
  if rel then immSext d + s.observedIp (s.nextIp (2 + d.bytes)) else immZext d

/-- A conditional branch; a branch not taken checks nothing (46_branches.md R393). -/
def branchIf (cc : Cond) (rel : Bool) (d : SizedImm) (s : State) : Result :=
  let nip := s.nextIp (2 + d.bytes)
  if condHolds cc s.flags then s.takeBranch (s.branchDest rel d) else .ok (s.advance nip)

/-- `jmp` (46_branches.md R401). -/
def jumpTo (rel : Bool) (d : SizedImm) (s : State) : Result := s.takeBranch (s.branchDest rel d)

/-- A call to `d` that pushes the return address; the pushed bytes are not yet seen by the fetches that follow, the stores
before the call are (46_branches.md R402, R408; 20_memory.md R160). A push that moves the destination's page counts as made after
the transfer (DESIGN CHOICE, log 49). -/
def State.callTo (s : State) (d nip : Word) : Result := do
  let pas ← s.validate .write (s.sp - 8) 8
  s.checkDestination s.xm d
  .ok (((s.jump d).store pas (leBytes 8 nip.toNat)).setR 7 (s.sp - 8))

/-- A fast call to `d`: the return address goes to `r14` (46_branches.md R403, R409). -/
def State.fastCallTo (s : State) (d nip : Word) : Result := do
  s.checkDestination s.xm d
  .ok ((s.jump d).setR 14 nip)

/-- `call` (46_branches.md R402). -/
def callCore (rel : Bool) (d : SizedImm) (s : State) : Result :=
  s.callTo (s.branchDest rel d) (s.nextIp (2 + d.bytes))

/-- `fcall` (46_branches.md R403). -/
def fastCallCore (rel : Bool) (d : SizedImm) (s : State) : Result :=
  s.fastCallTo (s.branchDest rel d) (s.nextIp (2 + d.bytes))

/-- `ret` (46_branches.md R404). -/
def returnCore (s : State) : Result := do
  let pas ← s.validate .read s.sp 8
  let d := s.loadWord pas
  s.checkDestination s.xm d
  .ok ((s.jump d).setR 7 (s.sp + 8))

/-- The destination of an indirect branch (46_branches.md R405). -/
def State.indirectDest (s : State) (rel : Bool) (r : BitVec 4) : Word :=
  if rel then s.r r + s.observedIp (s.nextIp 2) else s.r r

/-- `ijmp` (46_branches.md R405). -/
def indirectJump (rel : Bool) (r : BitVec 4) (s : State) : Result := s.takeBranch (s.indirectDest rel r)

/-- `icall` (46_branches.md R408). -/
def indirectCall (rel : Bool) (r : BitVec 4) (s : State) : Result := s.callTo (s.indirectDest rel r) (s.nextIp 2)

/-- `ifcall` (46_branches.md R409). -/
def indirectFastCall (rel : Bool) (s : State) : Result := s.fastCallTo (s.indirectDest rel 15) (s.nextIp 2)

/-- `jp` (46_branches.md R393). -/
def execJpAbs16 (_w : BitVec 4) (d : BitVec 16) (s : State) : Host.Outcome State Fault Refusal :=
  finish s (branchIf .p false (.i16 d) s)

/-- `jc` (46_branches.md R393). -/
def execJcAbs16 (_w : BitVec 4) (d : BitVec 16) (s : State) : Host.Outcome State Fault Refusal :=
  finish s (branchIf .c false (.i16 d) s)

/-- `jv` (46_branches.md R393). -/
def execJvAbs16 (_w : BitVec 4) (d : BitVec 16) (s : State) : Host.Outcome State Fault Refusal :=
  finish s (branchIf .v false (.i16 d) s)

/-- `jz` (46_branches.md R393). -/
def execJzAbs16 (_w : BitVec 4) (d : BitVec 16) (s : State) : Host.Outcome State Fault Refusal :=
  finish s (branchIf .z false (.i16 d) s)

/-- `jlt` (46_branches.md R393). -/
def execJltAbs16 (_w : BitVec 4) (d : BitVec 16) (s : State) : Host.Outcome State Fault Refusal :=
  finish s (branchIf .lt false (.i16 d) s)

/-- `jle` (46_branches.md R393). -/
def execJleAbs16 (_w : BitVec 4) (d : BitVec 16) (s : State) : Host.Outcome State Fault Refusal :=
  finish s (branchIf .le false (.i16 d) s)

/-- `jbe` (46_branches.md R393). -/
def execJbeAbs16 (_w : BitVec 4) (d : BitVec 16) (s : State) : Host.Outcome State Fault Refusal :=
  finish s (branchIf .be false (.i16 d) s)

/-- `jmi` (46_branches.md R393). -/
def execJmiAbs16 (_w : BitVec 4) (d : BitVec 16) (s : State) : Host.Outcome State Fault Refusal :=
  finish s (branchIf .mi false (.i16 d) s)

/-- `jpl` (46_branches.md R393). -/
def execJplAbs16 (_w : BitVec 4) (d : BitVec 16) (s : State) : Host.Outcome State Fault Refusal :=
  finish s (branchIf .pl false (.i16 d) s)

/-- `ja` (46_branches.md R393). -/
def execJaAbs16 (_w : BitVec 4) (d : BitVec 16) (s : State) : Host.Outcome State Fault Refusal :=
  finish s (branchIf .a false (.i16 d) s)

/-- `jgt` (46_branches.md R393). -/
def execJgtAbs16 (_w : BitVec 4) (d : BitVec 16) (s : State) : Host.Outcome State Fault Refusal :=
  finish s (branchIf .gt false (.i16 d) s)

/-- `jge` (46_branches.md R393). -/
def execJgeAbs16 (_w : BitVec 4) (d : BitVec 16) (s : State) : Host.Outcome State Fault Refusal :=
  finish s (branchIf .ge false (.i16 d) s)

/-- `jnz` (46_branches.md R393). -/
def execJnzAbs16 (_w : BitVec 4) (d : BitVec 16) (s : State) : Host.Outcome State Fault Refusal :=
  finish s (branchIf .nz false (.i16 d) s)

/-- `jnv` (46_branches.md R393). -/
def execJnvAbs16 (_w : BitVec 4) (d : BitVec 16) (s : State) : Host.Outcome State Fault Refusal :=
  finish s (branchIf .nv false (.i16 d) s)

/-- `jnc` (46_branches.md R393). -/
def execJncAbs16 (_w : BitVec 4) (d : BitVec 16) (s : State) : Host.Outcome State Fault Refusal :=
  finish s (branchIf .nc false (.i16 d) s)

/-- `jnp` (46_branches.md R393). -/
def execJnpAbs16 (_w : BitVec 4) (d : BitVec 16) (s : State) : Host.Outcome State Fault Refusal :=
  finish s (branchIf .np false (.i16 d) s)

/-- `jp` (46_branches.md R393). -/
def execJpRel16 (_w : BitVec 4) (d : BitVec 16) (s : State) : Host.Outcome State Fault Refusal :=
  finish s (branchIf .p true (.i16 d) s)

/-- `jc` (46_branches.md R393). -/
def execJcRel16 (_w : BitVec 4) (d : BitVec 16) (s : State) : Host.Outcome State Fault Refusal :=
  finish s (branchIf .c true (.i16 d) s)

/-- `jv` (46_branches.md R393). -/
def execJvRel16 (_w : BitVec 4) (d : BitVec 16) (s : State) : Host.Outcome State Fault Refusal :=
  finish s (branchIf .v true (.i16 d) s)

/-- `jz` (46_branches.md R393). -/
def execJzRel16 (_w : BitVec 4) (d : BitVec 16) (s : State) : Host.Outcome State Fault Refusal :=
  finish s (branchIf .z true (.i16 d) s)

/-- `jlt` (46_branches.md R393). -/
def execJltRel16 (_w : BitVec 4) (d : BitVec 16) (s : State) : Host.Outcome State Fault Refusal :=
  finish s (branchIf .lt true (.i16 d) s)

/-- `jle` (46_branches.md R393). -/
def execJleRel16 (_w : BitVec 4) (d : BitVec 16) (s : State) : Host.Outcome State Fault Refusal :=
  finish s (branchIf .le true (.i16 d) s)

/-- `jbe` (46_branches.md R393). -/
def execJbeRel16 (_w : BitVec 4) (d : BitVec 16) (s : State) : Host.Outcome State Fault Refusal :=
  finish s (branchIf .be true (.i16 d) s)

/-- `jmi` (46_branches.md R393). -/
def execJmiRel16 (_w : BitVec 4) (d : BitVec 16) (s : State) : Host.Outcome State Fault Refusal :=
  finish s (branchIf .mi true (.i16 d) s)

/-- `jpl` (46_branches.md R393). -/
def execJplRel16 (_w : BitVec 4) (d : BitVec 16) (s : State) : Host.Outcome State Fault Refusal :=
  finish s (branchIf .pl true (.i16 d) s)

/-- `ja` (46_branches.md R393). -/
def execJaRel16 (_w : BitVec 4) (d : BitVec 16) (s : State) : Host.Outcome State Fault Refusal :=
  finish s (branchIf .a true (.i16 d) s)

/-- `jgt` (46_branches.md R393). -/
def execJgtRel16 (_w : BitVec 4) (d : BitVec 16) (s : State) : Host.Outcome State Fault Refusal :=
  finish s (branchIf .gt true (.i16 d) s)

/-- `jge` (46_branches.md R393). -/
def execJgeRel16 (_w : BitVec 4) (d : BitVec 16) (s : State) : Host.Outcome State Fault Refusal :=
  finish s (branchIf .ge true (.i16 d) s)

/-- `jnz` (46_branches.md R393). -/
def execJnzRel16 (_w : BitVec 4) (d : BitVec 16) (s : State) : Host.Outcome State Fault Refusal :=
  finish s (branchIf .nz true (.i16 d) s)

/-- `jnv` (46_branches.md R393). -/
def execJnvRel16 (_w : BitVec 4) (d : BitVec 16) (s : State) : Host.Outcome State Fault Refusal :=
  finish s (branchIf .nv true (.i16 d) s)

/-- `jnc` (46_branches.md R393). -/
def execJncRel16 (_w : BitVec 4) (d : BitVec 16) (s : State) : Host.Outcome State Fault Refusal :=
  finish s (branchIf .nc true (.i16 d) s)

/-- `jnp` (46_branches.md R393). -/
def execJnpRel16 (_w : BitVec 4) (d : BitVec 16) (s : State) : Host.Outcome State Fault Refusal :=
  finish s (branchIf .np true (.i16 d) s)

/-- `jp` (46_branches.md R393). -/
def execJpAbs32 (_w : BitVec 4) (d : BitVec 32) (s : State) : Host.Outcome State Fault Refusal :=
  finish s (branchIf .p false (.i32 d) s)

/-- `jc` (46_branches.md R393). -/
def execJcAbs32 (_w : BitVec 4) (d : BitVec 32) (s : State) : Host.Outcome State Fault Refusal :=
  finish s (branchIf .c false (.i32 d) s)

/-- `jv` (46_branches.md R393). -/
def execJvAbs32 (_w : BitVec 4) (d : BitVec 32) (s : State) : Host.Outcome State Fault Refusal :=
  finish s (branchIf .v false (.i32 d) s)

/-- `jz` (46_branches.md R393). -/
def execJzAbs32 (_w : BitVec 4) (d : BitVec 32) (s : State) : Host.Outcome State Fault Refusal :=
  finish s (branchIf .z false (.i32 d) s)

/-- `jlt` (46_branches.md R393). -/
def execJltAbs32 (_w : BitVec 4) (d : BitVec 32) (s : State) : Host.Outcome State Fault Refusal :=
  finish s (branchIf .lt false (.i32 d) s)

/-- `jle` (46_branches.md R393). -/
def execJleAbs32 (_w : BitVec 4) (d : BitVec 32) (s : State) : Host.Outcome State Fault Refusal :=
  finish s (branchIf .le false (.i32 d) s)

/-- `jbe` (46_branches.md R393). -/
def execJbeAbs32 (_w : BitVec 4) (d : BitVec 32) (s : State) : Host.Outcome State Fault Refusal :=
  finish s (branchIf .be false (.i32 d) s)

/-- `jmi` (46_branches.md R393). -/
def execJmiAbs32 (_w : BitVec 4) (d : BitVec 32) (s : State) : Host.Outcome State Fault Refusal :=
  finish s (branchIf .mi false (.i32 d) s)

/-- `jpl` (46_branches.md R393). -/
def execJplAbs32 (_w : BitVec 4) (d : BitVec 32) (s : State) : Host.Outcome State Fault Refusal :=
  finish s (branchIf .pl false (.i32 d) s)

/-- `ja` (46_branches.md R393). -/
def execJaAbs32 (_w : BitVec 4) (d : BitVec 32) (s : State) : Host.Outcome State Fault Refusal :=
  finish s (branchIf .a false (.i32 d) s)

/-- `jgt` (46_branches.md R393). -/
def execJgtAbs32 (_w : BitVec 4) (d : BitVec 32) (s : State) : Host.Outcome State Fault Refusal :=
  finish s (branchIf .gt false (.i32 d) s)

/-- `jge` (46_branches.md R393). -/
def execJgeAbs32 (_w : BitVec 4) (d : BitVec 32) (s : State) : Host.Outcome State Fault Refusal :=
  finish s (branchIf .ge false (.i32 d) s)

/-- `jnz` (46_branches.md R393). -/
def execJnzAbs32 (_w : BitVec 4) (d : BitVec 32) (s : State) : Host.Outcome State Fault Refusal :=
  finish s (branchIf .nz false (.i32 d) s)

/-- `jnv` (46_branches.md R393). -/
def execJnvAbs32 (_w : BitVec 4) (d : BitVec 32) (s : State) : Host.Outcome State Fault Refusal :=
  finish s (branchIf .nv false (.i32 d) s)

/-- `jnc` (46_branches.md R393). -/
def execJncAbs32 (_w : BitVec 4) (d : BitVec 32) (s : State) : Host.Outcome State Fault Refusal :=
  finish s (branchIf .nc false (.i32 d) s)

/-- `jnp` (46_branches.md R393). -/
def execJnpAbs32 (_w : BitVec 4) (d : BitVec 32) (s : State) : Host.Outcome State Fault Refusal :=
  finish s (branchIf .np false (.i32 d) s)

/-- `jp` (46_branches.md R393). -/
def execJpRel32 (_w : BitVec 4) (d : BitVec 32) (s : State) : Host.Outcome State Fault Refusal :=
  finish s (branchIf .p true (.i32 d) s)

/-- `jc` (46_branches.md R393). -/
def execJcRel32 (_w : BitVec 4) (d : BitVec 32) (s : State) : Host.Outcome State Fault Refusal :=
  finish s (branchIf .c true (.i32 d) s)

/-- `jv` (46_branches.md R393). -/
def execJvRel32 (_w : BitVec 4) (d : BitVec 32) (s : State) : Host.Outcome State Fault Refusal :=
  finish s (branchIf .v true (.i32 d) s)

/-- `jz` (46_branches.md R393). -/
def execJzRel32 (_w : BitVec 4) (d : BitVec 32) (s : State) : Host.Outcome State Fault Refusal :=
  finish s (branchIf .z true (.i32 d) s)

/-- `jlt` (46_branches.md R393). -/
def execJltRel32 (_w : BitVec 4) (d : BitVec 32) (s : State) : Host.Outcome State Fault Refusal :=
  finish s (branchIf .lt true (.i32 d) s)

/-- `jle` (46_branches.md R393). -/
def execJleRel32 (_w : BitVec 4) (d : BitVec 32) (s : State) : Host.Outcome State Fault Refusal :=
  finish s (branchIf .le true (.i32 d) s)

/-- `jbe` (46_branches.md R393). -/
def execJbeRel32 (_w : BitVec 4) (d : BitVec 32) (s : State) : Host.Outcome State Fault Refusal :=
  finish s (branchIf .be true (.i32 d) s)

/-- `jmi` (46_branches.md R393). -/
def execJmiRel32 (_w : BitVec 4) (d : BitVec 32) (s : State) : Host.Outcome State Fault Refusal :=
  finish s (branchIf .mi true (.i32 d) s)

/-- `jpl` (46_branches.md R393). -/
def execJplRel32 (_w : BitVec 4) (d : BitVec 32) (s : State) : Host.Outcome State Fault Refusal :=
  finish s (branchIf .pl true (.i32 d) s)

/-- `ja` (46_branches.md R393). -/
def execJaRel32 (_w : BitVec 4) (d : BitVec 32) (s : State) : Host.Outcome State Fault Refusal :=
  finish s (branchIf .a true (.i32 d) s)

/-- `jgt` (46_branches.md R393). -/
def execJgtRel32 (_w : BitVec 4) (d : BitVec 32) (s : State) : Host.Outcome State Fault Refusal :=
  finish s (branchIf .gt true (.i32 d) s)

/-- `jge` (46_branches.md R393). -/
def execJgeRel32 (_w : BitVec 4) (d : BitVec 32) (s : State) : Host.Outcome State Fault Refusal :=
  finish s (branchIf .ge true (.i32 d) s)

/-- `jnz` (46_branches.md R393). -/
def execJnzRel32 (_w : BitVec 4) (d : BitVec 32) (s : State) : Host.Outcome State Fault Refusal :=
  finish s (branchIf .nz true (.i32 d) s)

/-- `jnv` (46_branches.md R393). -/
def execJnvRel32 (_w : BitVec 4) (d : BitVec 32) (s : State) : Host.Outcome State Fault Refusal :=
  finish s (branchIf .nv true (.i32 d) s)

/-- `jnc` (46_branches.md R393). -/
def execJncRel32 (_w : BitVec 4) (d : BitVec 32) (s : State) : Host.Outcome State Fault Refusal :=
  finish s (branchIf .nc true (.i32 d) s)

/-- `jnp` (46_branches.md R393). -/
def execJnpRel32 (_w : BitVec 4) (d : BitVec 32) (s : State) : Host.Outcome State Fault Refusal :=
  finish s (branchIf .np true (.i32 d) s)

/-- `jp` (46_branches.md R393). -/
def execJpAbs64 (_w : BitVec 4) (d : BitVec 64) (s : State) : Host.Outcome State Fault Refusal :=
  finish s (branchIf .p false (.i64 d) s)

/-- `jc` (46_branches.md R393). -/
def execJcAbs64 (_w : BitVec 4) (d : BitVec 64) (s : State) : Host.Outcome State Fault Refusal :=
  finish s (branchIf .c false (.i64 d) s)

/-- `jv` (46_branches.md R393). -/
def execJvAbs64 (_w : BitVec 4) (d : BitVec 64) (s : State) : Host.Outcome State Fault Refusal :=
  finish s (branchIf .v false (.i64 d) s)

/-- `jz` (46_branches.md R393). -/
def execJzAbs64 (_w : BitVec 4) (d : BitVec 64) (s : State) : Host.Outcome State Fault Refusal :=
  finish s (branchIf .z false (.i64 d) s)

/-- `jlt` (46_branches.md R393). -/
def execJltAbs64 (_w : BitVec 4) (d : BitVec 64) (s : State) : Host.Outcome State Fault Refusal :=
  finish s (branchIf .lt false (.i64 d) s)

/-- `jle` (46_branches.md R393). -/
def execJleAbs64 (_w : BitVec 4) (d : BitVec 64) (s : State) : Host.Outcome State Fault Refusal :=
  finish s (branchIf .le false (.i64 d) s)

/-- `jbe` (46_branches.md R393). -/
def execJbeAbs64 (_w : BitVec 4) (d : BitVec 64) (s : State) : Host.Outcome State Fault Refusal :=
  finish s (branchIf .be false (.i64 d) s)

/-- `jmi` (46_branches.md R393). -/
def execJmiAbs64 (_w : BitVec 4) (d : BitVec 64) (s : State) : Host.Outcome State Fault Refusal :=
  finish s (branchIf .mi false (.i64 d) s)

/-- `jpl` (46_branches.md R393). -/
def execJplAbs64 (_w : BitVec 4) (d : BitVec 64) (s : State) : Host.Outcome State Fault Refusal :=
  finish s (branchIf .pl false (.i64 d) s)

/-- `ja` (46_branches.md R393). -/
def execJaAbs64 (_w : BitVec 4) (d : BitVec 64) (s : State) : Host.Outcome State Fault Refusal :=
  finish s (branchIf .a false (.i64 d) s)

/-- `jgt` (46_branches.md R393). -/
def execJgtAbs64 (_w : BitVec 4) (d : BitVec 64) (s : State) : Host.Outcome State Fault Refusal :=
  finish s (branchIf .gt false (.i64 d) s)

/-- `jge` (46_branches.md R393). -/
def execJgeAbs64 (_w : BitVec 4) (d : BitVec 64) (s : State) : Host.Outcome State Fault Refusal :=
  finish s (branchIf .ge false (.i64 d) s)

/-- `jnz` (46_branches.md R393). -/
def execJnzAbs64 (_w : BitVec 4) (d : BitVec 64) (s : State) : Host.Outcome State Fault Refusal :=
  finish s (branchIf .nz false (.i64 d) s)

/-- `jnv` (46_branches.md R393). -/
def execJnvAbs64 (_w : BitVec 4) (d : BitVec 64) (s : State) : Host.Outcome State Fault Refusal :=
  finish s (branchIf .nv false (.i64 d) s)

/-- `jnc` (46_branches.md R393). -/
def execJncAbs64 (_w : BitVec 4) (d : BitVec 64) (s : State) : Host.Outcome State Fault Refusal :=
  finish s (branchIf .nc false (.i64 d) s)

/-- `jnp` (46_branches.md R393). -/
def execJnpAbs64 (_w : BitVec 4) (d : BitVec 64) (s : State) : Host.Outcome State Fault Refusal :=
  finish s (branchIf .np false (.i64 d) s)

/-- `jp` (46_branches.md R393). -/
def execJpRel64 (_w : BitVec 4) (d : BitVec 64) (s : State) : Host.Outcome State Fault Refusal :=
  finish s (branchIf .p true (.i64 d) s)

/-- `jc` (46_branches.md R393). -/
def execJcRel64 (_w : BitVec 4) (d : BitVec 64) (s : State) : Host.Outcome State Fault Refusal :=
  finish s (branchIf .c true (.i64 d) s)

/-- `jv` (46_branches.md R393). -/
def execJvRel64 (_w : BitVec 4) (d : BitVec 64) (s : State) : Host.Outcome State Fault Refusal :=
  finish s (branchIf .v true (.i64 d) s)

/-- `jz` (46_branches.md R393). -/
def execJzRel64 (_w : BitVec 4) (d : BitVec 64) (s : State) : Host.Outcome State Fault Refusal :=
  finish s (branchIf .z true (.i64 d) s)

/-- `jlt` (46_branches.md R393). -/
def execJltRel64 (_w : BitVec 4) (d : BitVec 64) (s : State) : Host.Outcome State Fault Refusal :=
  finish s (branchIf .lt true (.i64 d) s)

/-- `jle` (46_branches.md R393). -/
def execJleRel64 (_w : BitVec 4) (d : BitVec 64) (s : State) : Host.Outcome State Fault Refusal :=
  finish s (branchIf .le true (.i64 d) s)

/-- `jbe` (46_branches.md R393). -/
def execJbeRel64 (_w : BitVec 4) (d : BitVec 64) (s : State) : Host.Outcome State Fault Refusal :=
  finish s (branchIf .be true (.i64 d) s)

/-- `jmi` (46_branches.md R393). -/
def execJmiRel64 (_w : BitVec 4) (d : BitVec 64) (s : State) : Host.Outcome State Fault Refusal :=
  finish s (branchIf .mi true (.i64 d) s)

/-- `jpl` (46_branches.md R393). -/
def execJplRel64 (_w : BitVec 4) (d : BitVec 64) (s : State) : Host.Outcome State Fault Refusal :=
  finish s (branchIf .pl true (.i64 d) s)

/-- `ja` (46_branches.md R393). -/
def execJaRel64 (_w : BitVec 4) (d : BitVec 64) (s : State) : Host.Outcome State Fault Refusal :=
  finish s (branchIf .a true (.i64 d) s)

/-- `jgt` (46_branches.md R393). -/
def execJgtRel64 (_w : BitVec 4) (d : BitVec 64) (s : State) : Host.Outcome State Fault Refusal :=
  finish s (branchIf .gt true (.i64 d) s)

/-- `jge` (46_branches.md R393). -/
def execJgeRel64 (_w : BitVec 4) (d : BitVec 64) (s : State) : Host.Outcome State Fault Refusal :=
  finish s (branchIf .ge true (.i64 d) s)

/-- `jnz` (46_branches.md R393). -/
def execJnzRel64 (_w : BitVec 4) (d : BitVec 64) (s : State) : Host.Outcome State Fault Refusal :=
  finish s (branchIf .nz true (.i64 d) s)

/-- `jnv` (46_branches.md R393). -/
def execJnvRel64 (_w : BitVec 4) (d : BitVec 64) (s : State) : Host.Outcome State Fault Refusal :=
  finish s (branchIf .nv true (.i64 d) s)

/-- `jnc` (46_branches.md R393). -/
def execJncRel64 (_w : BitVec 4) (d : BitVec 64) (s : State) : Host.Outcome State Fault Refusal :=
  finish s (branchIf .nc true (.i64 d) s)

/-- `jnp` (46_branches.md R393). -/
def execJnpRel64 (_w : BitVec 4) (d : BitVec 64) (s : State) : Host.Outcome State Fault Refusal :=
  finish s (branchIf .np true (.i64 d) s)

/-- `jmp` (46_branches.md R401). -/
def execJmpAbs (d : SizedImm) (s : State) : Host.Outcome State Fault Refusal := finish s (jumpTo false d s)

/-- `call` (46_branches.md R402). -/
def execCallAbs (d : SizedImm) (s : State) : Host.Outcome State Fault Refusal := finish s (callCore false d s)

/-- `fcall` (46_branches.md R403). -/
def execFcallAbs (d : SizedImm) (s : State) : Host.Outcome State Fault Refusal := finish s (fastCallCore false d s)

/-- `ret` (46_branches.md R404). -/
def execRet (s : State) : Host.Outcome State Fault Refusal := finish s (returnCore s)

/-- `ijmp` (46_branches.md R405). -/
def execIjmpAbs (r : BitVec 4) (s : State) : Host.Outcome State Fault Refusal := finish s (indirectJump false r s)

/-- `fret` (46_branches.md R406). -/
def execFretAbs (s : State) : Host.Outcome State Fault Refusal := finish s (indirectJump false 14 s)

/-- `ifjmp` (46_branches.md R407). -/
def execIfjmpAbs (s : State) : Host.Outcome State Fault Refusal := finish s (indirectJump false 15 s)

/-- `icall` (46_branches.md R408). -/
def execIcallAbs (r : BitVec 4) (s : State) : Host.Outcome State Fault Refusal := finish s (indirectCall false r s)

/-- `ifcall` (46_branches.md R409). -/
def execIfcallAbs (s : State) : Host.Outcome State Fault Refusal := finish s (indirectFastCall false s)

/-- `jmp` (46_branches.md R401). -/
def execJmpRel (d : SizedImm) (s : State) : Host.Outcome State Fault Refusal := finish s (jumpTo true d s)

/-- `call` (46_branches.md R402). -/
def execCallRel (d : SizedImm) (s : State) : Host.Outcome State Fault Refusal := finish s (callCore true d s)

/-- `fcall` (46_branches.md R403). -/
def execFcallRel (d : SizedImm) (s : State) : Host.Outcome State Fault Refusal := finish s (fastCallCore true d s)

/-- `ijmp` (46_branches.md R405). -/
def execIjmpRel (r : BitVec 4) (s : State) : Host.Outcome State Fault Refusal := finish s (indirectJump true r s)

/-- `fret` (46_branches.md R406). -/
def execFretRel (s : State) : Host.Outcome State Fault Refusal := finish s (indirectJump true 14 s)

/-- `ifjmp` (46_branches.md R407). -/
def execIfjmpRel (s : State) : Host.Outcome State Fault Refusal := finish s (indirectJump true 15 s)

/-- `icall` (46_branches.md R408). -/
def execIcallRel (r : BitVec 4) (s : State) : Host.Outcome State Fault Refusal := finish s (indirectCall true r s)

/-- `ifcall` (46_branches.md R409). -/
def execIfcallRel (s : State) : Host.Outcome State Fault Refusal := finish s (indirectFastCall true s)

end Sys2Proof.Machine
end

