-- ==== Sys2Proof/Machine/Bulk.lean ====
section
/-! DEFINITION. Bulk register storage (42_bulk_registers.md). -/

namespace Sys2Proof.Machine

/-- The address of an operand that must be memory; its size is ignored (42_bulk_registers.md R290). -/
def memoryAddress : Place → Except Trap Word
  | .mem addr _ => .ok addr
  | _ => raise .und

/-- The value stored in slot `i` of a register image: slot 16 holds the address of the following instruction, and registers
without a value the image may show store 0 (42_bulk_registers.md R295, 48_supervisor.md R468; log 27). -/
def State.slot (s : State) (nip : Word) (i : Nat) : Word := s.readReg nip (BitVec.ofNat 8 i)

/-- The first `n` slots of the register image. -/
def State.image (s : State) (nip : Word) (n : Nat) : List Word := (List.range n).map (s.slot nip)

/-- Replace the general registers from the slots at physical addresses. -/
def State.loadGprs (s : State) (pas : List Nat) : State := { s with gpr := Vector.ofFn fun i => s.loadSlot pas i.val }

/-- `ModeRestore(v)` (10_state.md R42): in program mode the upper half of `mode` is kept whatever it and `v` are. The undefined
bits of what is loaded are free (U12; log 19). -/
def State.restoreMode (s : State) (v : Word) : Word :=
  if s.xm then (s.mode &&& (0xFFFFFFFF#64 <<< 32)) ||| s.loadedMode (v &&& 0xFFFFFFFF) else s.loadedMode v

/-- Replace the program registers other than `ip` from the image at physical addresses; PROT if a reserved slot is not 0
(42_bulk_registers.md R294, R296). -/
def State.loadProgramRegisters (s : State) (pas : List Nat) : Result := do
  require ((List.range 109).all fun i => s.loadSlot pas (19 + i) == 0) .prot
  .ok { ((s.loadGprs pas).writeFlags (s.loadSlot pas 17)) with mode := s.restoreMode (s.loadSlot pas 18) }

/-- `stogpr` (42_bulk_registers.md R291). -/
def storeGprs (a : Operand) (s : State) : Result := do
  let nip := s.nextIp (2 + a.length)
  s.checkOperands [a]
  let addr ← memoryAddress (s.place nip a)
  let pas ← s.validate .write addr 128
  .ok ((s.store pas (wordsBytes (s.image nip 16))).advance nip)

/-- `stoar` (42_bulk_registers.md R292): every block at the addresses validated before the first store (log 42). -/
def storeProgramRegisters (a : Operand) (s : State) : Result := do
  let nip := s.nextIp (2 + a.length)
  s.checkOperands [a]
  let addr ← memoryAddress (s.place nip a)
  let pas ← s.validate .write addr 1024
  .ok ((s.storeBlocks 8 pas (wordsBytes (s.image nip 128))).advance nip)

/-- `rstogpr` (42_bulk_registers.md R293). -/
def restoreGprs (a : Operand) (s : State) : Result := do
  let nip := s.nextIp (2 + a.length)
  s.checkOperands [a]
  let addr ← memoryAddress (s.place nip a)
  let pas ← s.validate .read addr 128
  .ok ((s.loadGprs pas).advance nip)

/-- `rstoar` (42_bulk_registers.md R294). -/
def restoreProgramRegisters (a : Operand) (s : State) : Result := do
  let nip := s.nextIp (2 + a.length)
  s.checkOperands [a]
  let addr ← memoryAddress (s.place nip a)
  let pas ← s.validate .read addr 1024
  let s' ← s.loadProgramRegisters pas
  .ok (s'.advance nip)

/-- `pushgpr` (42_bulk_registers.md R297). -/
def pushGprs (s : State) : Result := do
  let pas ← s.validate .write (s.sp - 128) 128
  .ok (((s.store pas (wordsBytes (s.image (s.nextIp 2) 16))).setR 7 (s.sp - 128)).advance (s.nextIp 2))

/-- `pushar` (42_bulk_registers.md R298): every block at the addresses validated before the first store (log 42). -/
def pushProgramRegisters (s : State) : Result := do
  let pas ← s.validate .write (s.sp - 1024) 1024
  .ok (((s.storeBlocks 8 pas (wordsBytes (s.image (s.nextIp 2) 128))).setR 7 (s.sp - 1024)).advance (s.nextIp 2))

/-- `popgpr` (42_bulk_registers.md R299). -/
def popGprs (s : State) : Result := do
  let pas ← s.validate .read s.sp 128
  .ok ((s.loadGprs pas).advance (s.nextIp 2))

/-- `popar` (42_bulk_registers.md R300). -/
def popProgramRegisters (s : State) : Result := do
  let pas ← s.validate .read s.sp 1024
  let s' ← s.loadProgramRegisters pas
  .ok (s'.advance (s.nextIp 2))

/-- `stogpr` (42_bulk_registers.md R291). -/
def execStogpr (a : Operand) (s : State) : Host.Outcome State Fault Refusal := finish s (storeGprs a s)

/-- `stoar` (42_bulk_registers.md R292). -/
def execStoar (a : Operand) (s : State) : Host.Outcome State Fault Refusal := finish s (storeProgramRegisters a s)

/-- `rstogpr` (42_bulk_registers.md R293). -/
def execRstogpr (a : Operand) (s : State) : Host.Outcome State Fault Refusal := finish s (restoreGprs a s)

/-- `rstoar` (42_bulk_registers.md R294). -/
def execRstoar (a : Operand) (s : State) : Host.Outcome State Fault Refusal := finish s (restoreProgramRegisters a s)

/-- `pushgpr` (42_bulk_registers.md R297). -/
def execPushgpr (s : State) : Host.Outcome State Fault Refusal := finish s (pushGprs s)

/-- `pushar` (42_bulk_registers.md R298). -/
def execPushar (s : State) : Host.Outcome State Fault Refusal := finish s (pushProgramRegisters s)

/-- `popgpr` (42_bulk_registers.md R299). -/
def execPopgpr (s : State) : Host.Outcome State Fault Refusal := finish s (popGprs s)

/-- `popar` (42_bulk_registers.md R300). -/
def execPopar (s : State) : Host.Outcome State Fault Refusal := finish s (popProgramRegisters s)

end Sys2Proof.Machine
end

