-- ==== Sys2Proof/Machine/Compare.lean ====
section
/-! DEFINITION. Conditional moves and comparisons (44_cmov_compare.md). -/

namespace Sys2Proof.Machine

/-- The checks of a conditional move on its first two operands, step 6 (44_cmov_compare.md R350, R351). -/
def checkConditionalMove (p q : Place) : Except Trap Unit := do
  require (!p.isImm) .und
  require (!(p.isMem && q.isMem)) .und

/-- The destination check of a conditional move (44_cmov_compare.md R350). -/
def checkConditionalDestination (p : Place) : Except Trap Unit :=
  require (!(p.isRegister 16 || p.isRegister 18)) .und

/-- The move itself: operand 2 is read and operand 1 validated for a write whether or not the condition holds
(44_cmov_compare.md R351). A machine-specific register as operand 2 is refused before operand 1 is validated (DESIGN CHOICE,
log 27). -/
def State.conditionalMove (s : State) (nip : Word) (p q : Place) (holds : Bool) : Result := do
  let v ← s.readPlace nip q
  let t ← s.openTarget p
  if holds then do
    let s' ← s.writeTarget t (truncBits p.bits v)
    .ok (s'.advance nip)
  else .ok (s.advance nip)

/-- `cmovt` (44_cmov_compare.md R351). A machine-specific register as operand 3 is refused before operands 1 and 2 are validated
(DESIGN CHOICE, log 27). -/
def moveIfOperand (cc : Cond) (a b c : Operand) (s : State) : Result := do
  let nip := s.nextIp (2 + a.length + b.length + c.length)
  s.checkOperands [a, b, c]
  let p := s.place nip a
  let q := s.place nip b
  checkConditionalMove p q
  match s.place nip c with
  | .reg r z => do
    checkConditionalDestination p
    let t ← s.readRegister nip r z
    s.conditionalMove nip p q (condHolds cc t)
  | _ => raise .und

/-- `cmov` (44_cmov_compare.md R352). -/
def moveIf (cc : Cond) (a b : Operand) (s : State) : Result := do
  let nip := s.nextIp (2 + a.length + b.length)
  s.checkOperands [a, b]
  let p := s.place nip a
  let q := s.place nip b
  checkConditionalMove p q
  checkConditionalDestination p
  s.conditionalMove nip p q (condHolds cc s.flags)

/-- The flags of `test` (44_cmov_compare.md R357). -/
def testFlags (fl x y : Word) (n : Nat) : Word := setZN fl (x &&& y) n

/-- A comparison of two operands at the larger width (44_cmov_compare.md R355, decisions D8, D9, D38). A machine-specific register
as operand 1 is refused before operand 2 is validated (DESIGN CHOICE, log 27). -/
def compare2 (fl : Word → Word → Word → Nat → Word) (a b : Operand) (s : State) : Result := do
  let nip := s.nextIp (2 + a.length + b.length)
  s.checkOperands [a, b]
  let p := s.place nip a
  let q := s.place nip b
  require (!p.isImm) .und
  require (!(p.isMem && q.isMem)) .und
  let x ← s.readPlace nip p
  let y ← s.readPlace nip q
  .ok ((s.withFlags (fl s.flags x y (max p.bits q.bits))).advance nip)

/-- A comparison of a general register with an operand (44_cmov_compare.md R358, R359). -/
def compareGpr (fl : Word → Word → Word → Nat → Word) (r : BitVec 4) (a : Operand) (s : State) : Result := do
  let nip := s.nextIp (2 + a.length)
  s.checkOperands [a]
  let y ← s.readPlace nip (s.place nip a)
  .ok ((s.withFlags (fl s.flags (s.r r) y 64)).advance nip)

/-- `cmovt` (44_cmov_compare.md R351). -/
def execCmovt (cc : Cond) (a : Operand) (b : Operand) (c : Operand) (s : State) : Host.Outcome State Fault Refusal :=
  finish s (moveIfOperand cc a b c s)

/-- `cmov` (44_cmov_compare.md R352). -/
def execCmov (cc : Cond) (a : Operand) (b : Operand) (s : State) : Host.Outcome State Fault Refusal :=
  finish s (moveIf cc a b s)

/-- `cmp` (44_cmov_compare.md R356). -/
def execCmp (a : Operand) (b : Operand) (s : State) : Host.Outcome State Fault Refusal :=
  finish s (compare2 subFlags a b s)

/-- `test` (44_cmov_compare.md R357). -/
def execTest (a : Operand) (b : Operand) (s : State) : Host.Outcome State Fault Refusal :=
  finish s (compare2 testFlags a b s)

/-- `cmp.gpr` (44_cmov_compare.md R358). -/
def execCmpGpr (r : BitVec 4) (a : Operand) (s : State) : Host.Outcome State Fault Refusal :=
  finish s (compareGpr subFlags r a s)

/-- `test.gpr` (44_cmov_compare.md R359). -/
def execTestGpr (r : BitVec 4) (a : Operand) (s : State) : Host.Outcome State Fault Refusal :=
  finish s (compareGpr testFlags r a s)

end Sys2Proof.Machine
end

