-- ==== Sys2Proof/Machine/Move.lean ====
section
/-! DEFINITION. Moves, address computation, no operation and the stack (41_mov_nop_stack.md). -/

namespace Sys2Proof.Machine

/-- `mov` (41_mov_nop_stack.md R261). -/
def move (a b : Operand) (s : State) : Result := do
  let nip := s.nextIp (2 + a.length + b.length)
  s.checkOperands [a, b]
  let p := s.place nip a
  let q := s.place nip b
  require (!p.isImm) .und
  require (p.isReg || q.isReg) .und
  require (!(p.isRegister 16 || p.isRegister 17)) .und
  let v ← s.readPlace nip q
  let t ← s.openTarget p
  let s' ← s.writeTarget t (truncBits p.bits v)
  .ok ((s'.withFlags (setZN s.flags (truncBits p.bits v) p.bits)).advance nip)

/-- `lea`: the address of a memory operand, which is not accessed (41_mov_nop_stack.md R262). -/
def loadAddress (a b : Operand) (s : State) : Result := do
  let nip := s.nextIp (2 + a.length + b.length)
  s.checkOperands [a, b]
  match s.place nip b, s.place nip a with
  | .mem addr _, .reg r z =>
    require (!(r == 16 || r == 17)) .und
    let s' ← s.writeTarget (.reg r z) (truncBits z.bits addr)
    .ok (s'.advance nip)
  | _, _ => raise .und

/-- `mov` to a general register (41_mov_nop_stack.md R263). -/
def moveToGpr (r : BitVec 4) (a : Operand) (s : State) : Result := do
  let nip := s.nextIp (2 + a.length)
  s.checkOperands [a]
  let p := s.place nip a
  let v ← s.readPlace nip p
  .ok (((s.setR r v).withFlags (setZN s.flags v p.bits)).advance nip)

/-- `mov` from a general register (41_mov_nop_stack.md R264). -/
def moveFromGpr (r : BitVec 4) (a : Operand) (s : State) : Result := do
  let nip := s.nextIp (2 + a.length)
  s.checkOperands [a]
  let p := s.place nip a
  require (!p.isImm) .und
  require (!(p.isRegister 16 || p.isRegister 17)) .und
  let t ← s.openTarget p
  let v := truncBits p.bits (s.r r)
  let s' ← s.writeTarget t v
  .ok ((s'.withFlags (setZN s.flags v p.bits)).advance nip)

/-- `lea` to a general register (41_mov_nop_stack.md R265). -/
def loadAddressToGpr (r : BitVec 4) (a : Operand) (s : State) : Result := do
  let nip := s.nextIp (2 + a.length)
  s.checkOperands [a]
  match s.place nip a with
  | .mem addr _ => .ok ((s.setR r addr).advance nip)
  | _ => raise .und

/-- `nop` of `len` bytes: its operands are decoded and nothing else (41_mov_nop_stack.md R269, R270). -/
def noOperation (len : Nat) (s : State) : Result := .ok (s.advance (s.nextIp len))

/-- Push an 8-byte value (41_mov_nop_stack.md R275). -/
def State.push (s : State) (v : Word) : Result := do
  let pas ← s.validate .write (s.sp - 8) 8
  .ok ((s.store pas (leBytes 8 v.toNat)).setR 7 (s.sp - 8))

/-- `push` (41_mov_nop_stack.md R276). -/
def pushOperand (a : Operand) (s : State) : Result := do
  let nip := s.nextIp (2 + a.length)
  s.checkOperands [a]
  let v ← s.readPlace nip (s.place nip a)
  let s' ← s.push v
  .ok (s'.advance nip)

/-- What `r7` holds after a pop into `r7` of the value `v`: `v + 8` or `v`, as the machine has it (41_mov_nop_stack.md R277,
U3; log 18). -/
def State.poppedSp (s : State) (v : Word) : Word := if s.params.popIntoSpAdds then v + 8 else v

/-- `pop` (41_mov_nop_stack.md R277, decision D24). -/
def popOperand (a : Operand) (s : State) : Result := do
  let nip := s.nextIp (2 + a.length)
  s.checkOperands [a]
  let p := s.place nip a
  require (!p.isImm && p.bits == 64) .und
  require (!p.isRegister 16) .und
  let slot ← s.validate .read s.sp 8
  let t ← s.openTarget p
  let v := s.loadWord slot
  let s' ← s.writeTarget t v
  .ok ((s'.setR 7 (if p.isRegister 7 then s.poppedSp v else s.sp + 8)).advance nip)

/-- `push` of a general register (41_mov_nop_stack.md R278). -/
def pushGprCore (r : BitVec 4) (s : State) : Result := do
  let s' ← s.push (s.r r)
  .ok (s'.advance (s.nextIp 2))

/-- `pop` into a general register (41_mov_nop_stack.md R279). -/
def popGprCore (r : BitVec 4) (s : State) : Result := do
  let slot ← s.validate .read s.sp 8
  let v := s.loadWord slot
  .ok (((s.setR r v).setR 7 (if r = 7 then s.poppedSp v else s.sp + 8)).advance (s.nextIp 2))

/-- `mov` (41_mov_nop_stack.md R261). -/
def execMov (a : Operand) (b : Operand) (s : State) : Host.Outcome State Fault Refusal := finish s (move a b s)

/-- `lea` (41_mov_nop_stack.md R262). -/
def execLea (a : Operand) (b : Operand) (s : State) : Host.Outcome State Fault Refusal := finish s (loadAddress a b s)

/-- `mov.togpr` (41_mov_nop_stack.md R263). -/
def execMovTogpr (r : BitVec 4) (a : Operand) (s : State) : Host.Outcome State Fault Refusal :=
  finish s (moveToGpr r a s)

/-- `mov.fromgpr` (41_mov_nop_stack.md R264). -/
def execMovFromgpr (r : BitVec 4) (a : Operand) (s : State) : Host.Outcome State Fault Refusal :=
  finish s (moveFromGpr r a s)

/-- `lea.togpr` (41_mov_nop_stack.md R265). -/
def execLeaTogpr (r : BitVec 4) (a : Operand) (s : State) : Host.Outcome State Fault Refusal :=
  finish s (loadAddressToGpr r a s)

/-- `nop` (41_mov_nop_stack.md R269). -/
def execNop (s : State) : Host.Outcome State Fault Refusal := finish s (noOperation 2 s)

/-- `nop1` (41_mov_nop_stack.md R271). -/
def execNop1 (a : Operand) (s : State) : Host.Outcome State Fault Refusal := finish s (noOperation (2 + a.length) s)

/-- `nop2` (41_mov_nop_stack.md R272). -/
def execNop2 (a : Operand) (b : Operand) (s : State) : Host.Outcome State Fault Refusal :=
  finish s (noOperation (2 + a.length + b.length) s)

/-- `nop3` (41_mov_nop_stack.md R273). -/
def execNop3 (a : Operand) (b : Operand) (c : Operand) (s : State) : Host.Outcome State Fault Refusal :=
  finish s (noOperation (2 + a.length + b.length + c.length) s)

/-- `push` (41_mov_nop_stack.md R276). -/
def execPush (a : Operand) (s : State) : Host.Outcome State Fault Refusal := finish s (pushOperand a s)

/-- `pop` (41_mov_nop_stack.md R277). -/
def execPop (a : Operand) (s : State) : Host.Outcome State Fault Refusal := finish s (popOperand a s)

/-- `push.gpr` (41_mov_nop_stack.md R278). -/
def execPushReg (r : BitVec 4) (s : State) : Host.Outcome State Fault Refusal := finish s (pushGprCore r s)

/-- `pop.gpr` (41_mov_nop_stack.md R279). -/
def execPopReg (r : BitVec 4) (s : State) : Host.Outcome State Fault Refusal := finish s (popGprCore r s)

end Sys2Proof.Machine
end

