-- ==== Sys2Proof/Machine/MulDiv.lean ====
section
/-! DEFINITION. Multiplication and division (40_undefined_alu_muldiv.md section 3). -/

namespace Sys2Proof.Machine

/-- The low `n` bits of a word as an unsigned number. -/
def lowBits (n : Nat) (v : Word) : Nat := v.toNat % 2 ^ n

/-- An `n`-bit number read as a signed one. -/
def signedOf (n v : Nat) : Int := if 2 ^ (n - 1) ≤ v then (v : Int) - 2 ^ n else v

/-- The two results in `r0` and `r3`, and the flags unless `nf`: Z and N from the new `r0`, C and V open
(40_undefined_alu_muldiv.md R240, decision D10; log 11). -/
def State.setPair (s : State) (n : Nat) (nf : Bool) (lo hi : Nat) : State :=
  let x : Word := BitVec.ofNat 64 (lo % 2 ^ n)
  let y : Word := BitVec.ofNat 64 (hi % 2 ^ n)
  let t := (s.setR 0 x).setR 3 y
  let fl := setCV (setZN s.flags x n) (Config.mulDivCarry s.draws) (Config.mulDivOverflow s.draws)
  (if nf then t else t.withFlags fl).advance (s.nextIp 2)

/-- `mul` (40_undefined_alu_muldiv.md R241). -/
def multiply (n : Nat) (nf : Bool) (s : State) : Result :=
  let p := lowBits n (s.r 0) * lowBits n (s.r 3)
  .ok (s.setPair n nf p (p / 2 ^ n))

/-- `imul` (40_undefined_alu_muldiv.md R243). -/
def multiplySigned (n : Nat) (nf : Bool) (s : State) : Result :=
  let p := ((signedOf n (lowBits n (s.r 0)) * signedOf n (lowBits n (s.r 3))) % 2 ^ (2 * n)).toNat
  .ok (s.setPair n nf p (p / 2 ^ n))

/-- The dividend, of `n` bits or, wide, of `2n` bits with the high half in `r1` (40_undefined_alu_muldiv.md R242). -/
def State.dividend (s : State) (n : Nat) (wide : Bool) : Nat :=
  lowBits n (s.r 0) + (if wide then 2 ^ n * lowBits n (s.r 1) else 0)

/-- `div`: the divisor tested is the `n`-bit one, and a quotient that does not fit is truncated
(40_undefined_alu_muldiv.md R242, decisions D11, D44). -/
def divide (n : Nat) (wide nf : Bool) (s : State) : Result := do
  let d := lowBits n (s.r 3)
  require (d != 0) .div
  .ok (s.setPair n nf (s.dividend n wide / d) (s.dividend n wide % d))

/-- `idiv`: rounding toward zero (40_undefined_alu_muldiv.md R244, decision D44). -/
def divideSigned (n : Nat) (wide nf : Bool) (s : State) : Result := do
  let d := signedOf n (lowBits n (s.r 3))
  require (d != 0) .div
  let x := signedOf (if wide then 2 * n else n) (s.dividend n wide)
  .ok (s.setPair n nf ((x.tdiv d % 2 ^ n).toNat) ((x.tmod d % 2 ^ n).toNat))

/-- `mul` (40_undefined_alu_muldiv.md R241). -/
def execMul (sz : Size) (f : Bool) (s : State) : Host.Outcome State Fault Refusal := finish s (multiply sz.bits f s)

/-- `div` (40_undefined_alu_muldiv.md R242). -/
def execDiv (sz : Size) (w : Bool) (f : Bool) (s : State) : Host.Outcome State Fault Refusal :=
  finish s (divide sz.bits w f s)

/-- `imul` (40_undefined_alu_muldiv.md R243). -/
def execImul (sz : Size) (f : Bool) (s : State) : Host.Outcome State Fault Refusal :=
  finish s (multiplySigned sz.bits f s)

/-- `idiv` (40_undefined_alu_muldiv.md R244). -/
def execIdiv (sz : Size) (w : Bool) (f : Bool) (s : State) : Host.Outcome State Fault Refusal :=
  finish s (divideSigned sz.bits w f s)

end Sys2Proof.Machine
end

