-- ==== Sys2Proof/Machine/Shift.lean ====
section
/-! DEFINITION. Converting moves, shifts, rotates and unary operations (43_convert_shift_unary.md sections 1 to 4). -/

namespace Sys2Proof.Machine

/-- The low `ns` bits of `v` fitted to `nd` bits by sign: truncated or sign-extended (43_convert_shift_unary.md R311). -/
def signFit (ns nd : Nat) (v : Word) : Word :=
  if nd ≤ ns then truncBits nd v
  else if v.getLsbD (ns - 1) then truncBits nd (v + BitVec.ofNat 64 (2 ^ nd - 2 ^ ns)) else truncBits nd v

/-- The `n` low bytes of `v` in reverse order (43_convert_shift_unary.md R312). -/
def byteReverse (n : Nat) (v : Word) : Word := BitVec.ofNat 64 (leValue (leBytes n v.toNat).reverse)

/-- The operand checks of the converting moves, step 6 (43_convert_shift_unary.md R310). -/
def checkConvertOperands (p q : Place) : Except Trap Unit := do
  require (!p.isImm) .und
  require (p.isReg || q.isReg) .und
  require (!(p.isRegister 16 || p.isRegister 17)) .und

/-- Write a converted value and, unless `nf`, set Z and N from it. -/
def State.writeConverted (s : State) (nip : Word) (t : Target) (v : Word) (n : Nat) (nf : Bool) : Result := do
  let s' ← s.writeTarget t v
  .ok ((if nf then s' else s'.withFlags (setZN s.flags v n)).advance nip)

/-- `movsx` (43_convert_shift_unary.md R311). -/
def moveSigned (nf : Bool) (a b : Operand) (s : State) : Result := do
  let nip := s.nextIp (2 + a.length + b.length)
  s.checkOperands [a, b]
  let p := s.place nip a
  let q := s.place nip b
  checkConvertOperands p q
  let v ← s.readPlace nip q
  let t ← s.openTarget p
  s.writeConverted nip t (signFit q.bits p.bits v) p.bits nf

/-- `bswap` (43_convert_shift_unary.md R312). -/
def swapBytes (nf : Bool) (a b : Operand) (s : State) : Result := do
  let nip := s.nextIp (2 + a.length + b.length)
  s.checkOperands [a, b]
  let p := s.place nip a
  let q := s.place nip b
  checkConvertOperands p q
  require (p.bits == q.bits) .und
  let v ← s.readPlace nip q
  let t ← s.openTarget p
  s.writeConverted nip t (byteReverse (p.bits / 8) v) p.bits nf

/-- What a shift of the `n`-bit value `a` by `q` gives, with carry `c` in: the `n`-bit result and the last bit shifted out
(false when none is). -/
abbrev Shifter := (a q n : Nat) → (c : Bool) → Nat × Bool

/-- `lsh` for `q ≤ n` (43_convert_shift_unary.md R314). -/
def lshBy : Shifter := fun a q n _ => (a * 2 ^ q % 2 ^ n, decide (1 ≤ q) && a.testBit (n - q))

/-- `rsh` for `q ≤ n` (43_convert_shift_unary.md R315). -/
def rshBy : Shifter := fun a q _ _ => (a / 2 ^ q, decide (1 ≤ q) && a.testBit (q - 1))

/-- `arsh` for `q ≤ n` (43_convert_shift_unary.md R316). -/
def arshBy : Shifter := fun a q n _ =>
  (a / 2 ^ q + (if a.testBit (n - 1) then 2 ^ n - 2 ^ (n - q) else 0), decide (1 ≤ q) && a.testBit (q - 1))

/-- `lshc` for `q ≤ n` (43_convert_shift_unary.md R317, decision D15). -/
def lshcBy : Shifter := fun a q n c =>
  (a * 2 ^ q % 2 ^ n + (if c then 2 ^ q - 1 else 0), decide (1 ≤ q) && a.testBit (n - q))

/-- `rshc` for `q ≤ n` (43_convert_shift_unary.md R318, decision D15). -/
def rshcBy : Shifter := fun a q n c =>
  (a / 2 ^ q + (if c then (2 ^ q - 1) * 2 ^ (n - q) else 0), decide (1 ≤ q) && a.testBit (q - 1))

/-- `lrot` for `q < n` (43_convert_shift_unary.md R319). -/
def lrotBy : Shifter := fun a q n _ => (a * 2 ^ q % 2 ^ n + a / 2 ^ (n - q), decide (1 ≤ q) && a.testBit (n - q))

/-- `rrot` for `q < n` (43_convert_shift_unary.md R320). -/
def rrotBy : Shifter := fun a q n _ => (a / 2 ^ q + a * 2 ^ (n - q) % 2 ^ n, decide (1 ≤ q) && a.testBit (q - 1))

/-- A shift of an `n`-bit value by `q`: result and carry. By more than the width both are free values
(43_convert_shift_unary.md R322, U5; log 12). -/
def State.shifted (s : State) (g : Shifter) (n : Nat) (a q : Word) : Word × Bool :=
  if n < q.toNat then (truncBits n (Config.shiftResult s.draws), Config.shiftCarry s.draws)
  else
    let o := g a.toNat q.toNat n (s.flags.getLsbD bitC)
    (BitVec.ofNat 64 o.1, o.2)

/-- A rotate of an `n`-bit value by `q` modulo `n`: result and carry (43_convert_shift_unary.md R319, R320). -/
def State.rotated (s : State) (g : Shifter) (n : Nat) (a q : Word) : Word × Bool :=
  let o := g a.toNat (q.toNat % n) n (s.flags.getLsbD bitC)
  (BitVec.ofNat 64 o.1, o.2)

/-- The flags of a shift or rotate by the quantity `q` as read (43_convert_shift_unary.md R322, decision D16). -/
def shiftFlags (fl : Word) (o : Word × Bool) (n : Nat) (q : Word) : Word :=
  setZN (setCV fl o.2 (decide (n < q.toNat))) o.1 n

/-- `Shift(g)` (43_convert_shift_unary.md R313). -/
def shift2 (g : Nat → Word → Word → Word × Bool) (l nf : Bool) (a b : Operand) (s : State) : Result := do
  let nip := s.nextIp (2 + a.length + b.length)
  s.checkOperands [a, b]
  let p := s.place nip a
  let q := s.place nip b
  checkAluOperands l p q
  let y ← s.readPlace nip q
  let t ← s.openTarget p
  let x ← s.readTarget nip t
  let o := g p.bits x y
  let s' ← s.writeTarget t o.1
  let s' := if nf then s' else s'.withFlags (shiftFlags s.flags o p.bits y)
  .ok (s'.advance nip)

/-- `ShiftR(g)`: the 64-bit value is a general register (43_convert_shift_unary.md R323). -/
def shiftGpr (g : Nat → Word → Word → Word × Bool) (r : BitVec 4) (a : Operand) (s : State) : Result := do
  let nip := s.nextIp (2 + a.length)
  s.checkOperands [a]
  let y ← s.readPlace nip (s.place nip a)
  let o := g 64 (s.r r) y
  .ok (((s.setR r o.1).withFlags (shiftFlags s.flags o 64 y)).advance nip)

/-- The flags of a unary operation: Z, N and P (43_convert_shift_unary.md R332). -/
def unaryFlags (fl v : Word) (n : Nat) : Word := setP (setZN fl v n) v n

/-- `Unary(g)` (43_convert_shift_unary.md R332); the lock bit has no effect one CPU can show (R331; log 35). -/
def unary (g : Word → Word) (nf : Bool) (a : Operand) (s : State) : Result := do
  let nip := s.nextIp (2 + a.length)
  s.checkOperands [a]
  let p := s.place nip a
  require (!p.isImm) .und
  require (!(p.isRegister 16 || p.isRegister 17)) .und
  let t ← s.openTarget p
  let x ← s.readTarget nip t
  let v := truncBits p.bits (g x)
  let s' ← s.writeTarget t v
  .ok ((if nf then s' else s'.withFlags (unaryFlags s.flags v p.bits)).advance nip)

/-- A unary operation on a general register (43_convert_shift_unary.md R335, R336). -/
def unaryGpr (g : Word → Word) (r : BitVec 4) (s : State) : Result :=
  .ok (((s.setR r (g (s.r r))).withFlags (unaryFlags s.flags (g (s.r r)) 64)).advance (s.nextIp 2))

/-- Bitwise negation; the low `n` bits of the result are those of `a xor (2^n - 1)` (43_convert_shift_unary.md R333). -/
def bitNot (x : Word) : Word := ~~~x

/-- Two's complement; the low `n` bits of the result are those of `2^n - a` (43_convert_shift_unary.md R334). -/
def wordNeg (x : Word) : Word := -x

/-- `movsx` (43_convert_shift_unary.md R311). -/
def execMovsx (f : Bool) (a : Operand) (b : Operand) (s : State) : Host.Outcome State Fault Refusal :=
  finish s (moveSigned f a b s)

/-- `bswap` (43_convert_shift_unary.md R312). -/
def execBswap (f : Bool) (a : Operand) (b : Operand) (s : State) : Host.Outcome State Fault Refusal :=
  finish s (swapBytes f a b s)

/-- `lsh` (43_convert_shift_unary.md R314). -/
def execLsh (l : Bool) (f : Bool) (a : Operand) (b : Operand) (s : State) : Host.Outcome State Fault Refusal :=
  finish s (shift2 (s.shifted lshBy) l f a b s)

/-- `rsh` (43_convert_shift_unary.md R315). -/
def execRsh (l : Bool) (f : Bool) (a : Operand) (b : Operand) (s : State) : Host.Outcome State Fault Refusal :=
  finish s (shift2 (s.shifted rshBy) l f a b s)

/-- `arsh` (43_convert_shift_unary.md R316). -/
def execArsh (l : Bool) (f : Bool) (a : Operand) (b : Operand) (s : State) : Host.Outcome State Fault Refusal :=
  finish s (shift2 (s.shifted arshBy) l f a b s)

/-- `lshc` (43_convert_shift_unary.md R317). -/
def execLshc (l : Bool) (f : Bool) (a : Operand) (b : Operand) (s : State) : Host.Outcome State Fault Refusal :=
  finish s (shift2 (s.shifted lshcBy) l f a b s)

/-- `rshc` (43_convert_shift_unary.md R318). -/
def execRshc (l : Bool) (f : Bool) (a : Operand) (b : Operand) (s : State) : Host.Outcome State Fault Refusal :=
  finish s (shift2 (s.shifted rshcBy) l f a b s)

/-- `lrot` (43_convert_shift_unary.md R319). -/
def execLrot (l : Bool) (f : Bool) (a : Operand) (b : Operand) (s : State) : Host.Outcome State Fault Refusal :=
  finish s (shift2 (s.rotated lrotBy) l f a b s)

/-- `rrot` (43_convert_shift_unary.md R320). -/
def execRrot (l : Bool) (f : Bool) (a : Operand) (b : Operand) (s : State) : Host.Outcome State Fault Refusal :=
  finish s (shift2 (s.rotated rrotBy) l f a b s)

/-- `lsh.gpr` (43_convert_shift_unary.md R324). -/
def execLshGpr (r : BitVec 4) (a : Operand) (s : State) : Host.Outcome State Fault Refusal :=
  finish s (shiftGpr (s.shifted lshBy) r a s)

/-- `rsh.gpr` (43_convert_shift_unary.md R325). -/
def execRshGpr (r : BitVec 4) (a : Operand) (s : State) : Host.Outcome State Fault Refusal :=
  finish s (shiftGpr (s.shifted rshBy) r a s)

/-- `arsh.gpr` (43_convert_shift_unary.md R326). -/
def execArshGpr (r : BitVec 4) (a : Operand) (s : State) : Host.Outcome State Fault Refusal :=
  finish s (shiftGpr (s.shifted arshBy) r a s)

/-- `lshc.gpr` (43_convert_shift_unary.md R327). -/
def execLshcGpr (r : BitVec 4) (a : Operand) (s : State) : Host.Outcome State Fault Refusal :=
  finish s (shiftGpr (s.shifted lshcBy) r a s)

/-- `rshc.gpr` (43_convert_shift_unary.md R328). -/
def execRshcGpr (r : BitVec 4) (a : Operand) (s : State) : Host.Outcome State Fault Refusal :=
  finish s (shiftGpr (s.shifted rshcBy) r a s)

/-- `lrot.gpr` (43_convert_shift_unary.md R329). -/
def execLrotGpr (r : BitVec 4) (a : Operand) (s : State) : Host.Outcome State Fault Refusal :=
  finish s (shiftGpr (s.rotated lrotBy) r a s)

/-- `rrot.gpr` (43_convert_shift_unary.md R330). -/
def execRrotGpr (r : BitVec 4) (a : Operand) (s : State) : Host.Outcome State Fault Refusal :=
  finish s (shiftGpr (s.rotated rrotBy) r a s)

/-- `bnot` (43_convert_shift_unary.md R333). -/
def execBnot (_l : Bool) (f : Bool) (a : Operand) (s : State) : Host.Outcome State Fault Refusal :=
  finish s (unary bitNot f a s)

/-- `neg` (43_convert_shift_unary.md R334). -/
def execNeg (_l : Bool) (f : Bool) (a : Operand) (s : State) : Host.Outcome State Fault Refusal :=
  finish s (unary wordNeg f a s)

/-- `bnot.gpr` (43_convert_shift_unary.md R335). -/
def execBnotGpr (r : BitVec 4) (s : State) : Host.Outcome State Fault Refusal := finish s (unaryGpr bitNot r s)

/-- `neg.gpr` (43_convert_shift_unary.md R336). -/
def execNegGpr (r : BitVec 4) (s : State) : Host.Outcome State Fault Refusal := finish s (unaryGpr wordNeg r s)

end Sys2Proof.Machine
end

