-- ==== Sys2Proof/Machine/Devices.lean ====
section
/-! DEFINITION. The I/O devices the spec defines (60_exceptions.md R526 to R532): the number of CPUs, the cpuinfo query, the
register load pointers and the CPU enable control words with the start of a CPU; and the machine's own devices. This CPU is
number 0 (log 7). -/

namespace Sys2Proof.Machine

/-- A device, by its address; a device of a CPU the machine does not have is absent (60_exceptions.md R527). -/
inductive Device
  | cpuCount
  | cpuInfo (n : Nat)
  | loadPointer (n : Fin 128)
  | enableWord (n : Fin 128)
  | machine
  | absent
  deriving DecidableEq, Repr

/-- Whether a machine-specific device answers at an address, which is at least 2^32 (20_memory.md R86; log 29). -/
def Params.hasDevice (p : Params) (a : Nat) : Bool :=
  decide (2 ^ 32 ≤ a) && p.ioDevices.any fun r => decide (r.1 ≤ a) && decide (a < r.1 + r.2)

/-- The device at an address (60_exceptions.md R527). -/
def State.device (s : State) (addr : Word) : Device :=
  let a := addr.toNat
  let cpu (n : Nat) (d : Fin 128 → Device) : Device :=
    if h : n < 128 then (if n < s.params.ncpu then d ⟨n, h⟩ else .absent) else .absent
  if a = 0xfe80 then .cpuCount
  else if 0x7f00 ≤ a ∧ a < 0x7f80 then cpu (a - 0x7f00) fun n => .cpuInfo n.val
  else if 0xff00 ≤ a ∧ a < 0xff80 then cpu (a - 0xff00) .loadPointer
  else if 0xff80 ≤ a ∧ a < 0x10000 then cpu (a - 0xff80) .enableWord
  else if s.params.hasDevice a then .machine
  else .absent

/-- Whether a CPU is enabled (60_exceptions.md R528); CPU 0 executes. -/
def State.cpuEnabled (s : State) (n : Fin 128) : Bool := n.val == 0 || s.enableWord[n].getLsbD 0

/-- Whether a CPU is active (60_exceptions.md R528); CPU 0 executes. -/
def State.cpuActive (s : State) (n : Fin 128) : Bool := n.val == 0 || (s.enableWord[n].getLsbD 0 && s.enableWord[n].getLsbD 1)

/-- `IoRead(addr, n)` (48_supervisor.md R462): where the spec states no value of a present device, a free one (U19, U22,
U31; log 29). -/
def State.ioRead (s : State) (addr : Word) (z : Size) : Word :=
  let open_ := truncBits z.bits (Config.deviceRead s.draws)
  match s.device addr with
  | .absent => 0
  | .cpuCount => if z = .b2 then truncBits 16 (BitVec.ofNat 64 s.params.ncpu) else open_
  | .cpuInfo _ => open_
  | .machine => open_
  | .loadPointer n => if z = .b8 then s.loadPointer[n] else open_
  | .enableWord n => if z = .b8 ∧ s.cpuActive n = false then s.enableWord[n] else open_

/-- `cpuex2.VAS` of another CPU: one of the values 0 to 4 (10_state.md R55; log 30). -/
def otherVas (n : Nat) : Nat := (Config.otherCpuInfo n 3).toNat % 5

/-- The CPUInfo registers of another CPU: the id, PAS, VAS and `mscpuex` are its own, the rest is fixed (10_state.md R54 to R56;
log 30). -/
def otherCpuInfo (n : Nat) : List Word :=
  let free := Config.otherCpuInfo n
  [free 0, free 1, 1 ||| ((free 2 &&& 7) <<< 2) ||| (BitVec.ofNat 64 (otherVas n) <<< 5), 0, 0, 0, 0, free 7]

/-- The CPUInfo registers of a CPU, as it reports them (60_exceptions.md R532; log 30). -/
def State.cpuInfoOf (s : State) (n : Nat) : List Word :=
  if n = 0 then [s.cpuidlo, s.cpuidhi, s.cpuex2, s.cpuex3, s.cpuex4, s.cpuex5, s.cpuex6, s.mscpuex] else otherCpuInfo n

/-- The physical addresses `pa`, `pa+1`, …, or the page fault of the first that is not valid (20_memory.md R100;
60_exceptions.md R532). With paging on too the address involved is the physical one: `fcode` receives it, with pref and plevel 0
and NON_PAGED clear, where R130, R132 and R487 speak of a virtual address (DESIGN CHOICE, log 30). -/
def State.physAddresses (s : State) (kind : Access) : (pa n : Nat) → Except PageFault (List Nat)
  | _, 0 => .ok []
  | pa, n + 1 =>
    match s.physCheck pa with
    | .valid => do
      let ps ← State.physAddresses s kind (pa + 1) n
      .ok (pa :: ps)
    | bad => .error (s.physFault s.xm kind (BitVec.ofNat 64 pa) 0 0 bad)

/-- The Exception field of an enable word (60_exceptions.md R528). -/
def exceptionField (v : Word) : BitVec 6 := field v 2 6

/-- A slot of the start-up block that must be 0 (60_exceptions.md R530). -/
def startUpReserved (i : Nat) : Bool :=
  regClass (BitVec.ofNat 8 i) == .reserved || regClass (BitVec.ofNat 8 i) == .cpuInfo

/-- Whether the values of a start-up block are valid for CPU `n`: `ip` even, and no reserved bit in `flags`, `cr0`, `flprotect`,
`sccr` and `ciread` (60_exceptions.md R530). Flag bits in the `cr1` slot, and the slots of `mode` and `msr0` to `msr6`, are not
checked; the spec does not say whether they make a block invalid (DESIGN CHOICE, log 43). -/
def startUpValid (n : Nat) (slot : Nat → Word) : Bool :=
  !(slot 16).getLsbD 0
    && slot 17 &&& ~~~flagsMask == 0
    && slot 128 &&& ~~~0x3B#64 == 0
    && decide (ptlOf (slot 128) ≤ otherVas n)
    && slot 130 &&& ~~~flagsMask == 0
    && slot 133 &&& ~~~0x2#64 == 0
    && slot 135 &&& ~~~0xFF#64 == 0

/-- The 256 register values CPU `n` loads from the block at its register load pointer when it is enabled (60_exceptions.md R530,
R531): undefined where the block is not valid memory or a value is invalid (U18), refused where a slot that must be 0 is not
(U24; log 43). -/
def State.startUpRegisters (s : State) (n : Fin 128) : Except Trap (List Word) :=
  let pa := s.loadPointer[n].toNat
  let slot := s.loadSlot ((List.range 2048).map (pa + ·))
  match s.physCheckRange pa 2048 with
  | .valid =>
    if (List.range 256).any fun i => startUpReserved i && slot i != 0 then .error (.refuse (.startUpBlock n.val))
    else if startUpValid n.val slot then .ok ((List.range 256).map slot)
    else .error (.fault .undefinedCpuControl)
  | _ => .error (.fault .undefinedCpuControl)

/-- Write an enable word (60_exceptions.md R528). For an active CPU only a word that keeps it enabled and active, with the
other bits outside the Exception field 0, has a stated effect; CPU 0 then delivers the number at its next instruction
boundary (R517). For an inactive CPU a word is invalid when it sets Active without Enable, or enables with a reserved bit
set. A word that enables a disabled CPU makes it load its registers from its start-up block (R531). Bits 56 to 63 are kept and
read back and have no effect here, their meaning being the machine's (U31; DESIGN CHOICE, log 30). Undefined behaviour stops the
model (U17, U26; log 30). -/
def State.writeEnableWord (s : State) (n : Fin 128) (v : Word) : Result :=
  if s.cpuActive n then
    if field v 0 2 ≠ 3 ∨ field v 8 56 ≠ 0 then .error (.fault .undefinedCpuControl)
    else if n.val = 0 then .ok (if exceptionField v = 0 then s else { s with injected := exceptionField v })
    else .ok { s with enableWord := s.enableWord.set n v }
  else if v.getLsbD 0 = false ∧ v.getLsbD 1 then .error (.fault .undefinedCpuControl)
  else if v.getLsbD 0 ∧ field v 8 48 ≠ 0 then .error (.fault .undefinedCpuControl)
  else if v.getLsbD 0 ∧ s.cpuEnabled n = false then do
    let registers ← s.startUpRegisters n
    .ok { s with enableWord := s.enableWord.set n v, startUp := s.startUp.set n registers }
  else .ok { s with enableWord := s.enableWord.set n v }

/-- Write a register load pointer; undefined for an enabled CPU and for an out-of-range address (60_exceptions.md R529;
log 30). -/
def State.writeLoadPointer (s : State) (n : Fin 128) (v : Word) : Result :=
  if s.cpuEnabled n ∨ s.physCheck v.toNat = .outOfRange then .error (.fault .undefinedCpuControl)
  else .ok { s with loadPointer := s.loadPointer.set n v }

/-- Query the CPUInfo registers of a CPU: 64 bytes stored at a physical address (60_exceptions.md R532). They are one memory
operation, where the rule says "stored consecutively" and not how many (DESIGN CHOICE, log 30). -/
def State.queryCpuInfo (s : State) (n : Nat) (v : Word) : Result := do
  let pas ← paged (s.physAddresses .write v.toNat 64)
  .ok (s.store pas (wordsBytes (s.cpuInfoOf n)))

/-- `IoWrite(addr, n, v)` (48_supervisor.md R463): an absent device, the count of CPUs and a width other than the stated one
ignore the write (U22), and what a machine-specific device does with it is not seen here (U31; log 29). -/
def State.ioWrite (s : State) (addr : Word) (z : Size) (v : Word) : Result :=
  if z = .b8 then
    match s.device addr with
    | .absent => .ok s
    | .cpuCount => .ok s
    | .machine => .ok s
    | .cpuInfo n => s.queryCpuInfo n v
    | .loadPointer n => s.writeLoadPointer n v
    | .enableWord n => s.writeEnableWord n v
  else .ok s

end Sys2Proof.Machine
end

