-- ==== Sys2Proof/Machine/Supervisor.lean ====
section
/-! DEFINITION. Supervisor instructions (48_supervisor.md). -/

namespace Sys2Proof.Machine

/-- `halt` (48_supervisor.md R454). -/
def haltCore (s : State) : Result := do
  s.requireSupervisor
  .ok { s.advance (s.nextIp 2) with halted := true }

/-- `pcfl`: the flush has happened when its late PF is raised (48_supervisor.md R456, 60_exceptions.md R485). -/
def flushPageCaches (s : State) : Host.Outcome State Fault Refusal :=
  let t := (s.sync .pageFlush).dropTranslations
  finish (if s.xm then s else t) do
    s.requireSupervisor
    require (field s.page 0 12 == 0) (.pf s.bareFault)
    .ok (t.advance (s.nextIp 2))

/-- `flall`: the page caches are dropped, and every store made so far is Execution Visible (48_supervisor.md R457). -/
def flushAll (s : State) : Result := do
  s.requireSupervisor
  let t := (s.sync .globalFlush).dropTranslations
  .ok { t.advance (s.nextIp 2) with recent := s.allVisible }

/-- The memory operand of a flush by address: its address and size (48_supervisor.md R458, R459). -/
def flushOperand : Place → Except Trap (Word × Nat)
  | .mem addr z => .ok (addr, z.bytes)
  | _ => raise .und

/-- `dflush` (48_supervisor.md R458, decision D41). -/
def flushData (a : Operand) (s : State) : Result := do
  let nip := s.nextIp (2 + a.length)
  s.requireSupervisor
  s.checkOperands [a]
  let m ← flushOperand (s.place nip a)
  let pas ← s.validate .read m.1 m.2
  .ok ((s.sync (.dataFlush pas)).advance nip)

/-- A store that touches one of the bytes is Execution Visible to the later fetches that read one of them
(48_supervisor.md R459). The rule's "that access any of the bytes" is read as limiting the eligible memory operations too: a
store to the other byte of such a fetch only is left as it is (DESIGN CHOICE, log 47). -/
def StoreRecord.flushed (r : StoreRecord) (pas : List Nat) : StoreRecord :=
  if pas.any fun p => (r.old.lookup p).isSome then { r with visibleAt := pas ++ r.visibleAt } else r

/-- `iflush` (48_supervisor.md R459, decision D41). -/
def flushInstructions (a : Operand) (s : State) : Result := do
  let nip := s.nextIp (2 + a.length)
  s.requireSupervisor
  s.checkOperands [a]
  let m ← flushOperand (s.place nip a)
  require (!(decide (1 < m.2) && m.1.getLsbD 0)) (.xa m.1)
  let pas ← s.validate .read m.1 m.2
  .ok { (s.sync (.execFlush pas)).advance nip with recent := s.recent.map fun r => r.flushed pas }

/-- `in` (48_supervisor.md R462). -/
def readDevice (z : Size) (s : State) : Result := do
  s.requireSupervisor
  let v := s.ioRead (s.r 2) z
  .ok ((((s.sync .io).setR 0 v).withFlags (setP (setZN s.flags v z.bits) v z.bits)).advance (s.nextIp 2))

/-- `out` (48_supervisor.md R463). -/
def writeDevice (z : Size) (s : State) : Result := do
  s.requireSupervisor
  let t ← s.ioWrite (s.r 2) z (truncBits z.bits (s.r 0))
  .ok ((t.sync .io).advance (s.nextIp 2))

/-- `storegf` (48_supervisor.md R465, R468): every block at the addresses validated before the first store (log 42). -/
def storeRegisterFile (a : Operand) (s : State) : Result := do
  let nip := s.nextIp (2 + a.length)
  s.requireSupervisor
  s.checkOperands [a]
  let addr ← memoryAddress (s.place nip a)
  let pas ← s.validate .write addr 2048
  .ok ((s.storeBlocks 16 pas (wordsBytes (s.image nip 256))).advance nip)

/-- The slots that must hold 0 in a full register image (48_supervisor.md R466). -/
def reservedSlots : List Nat := (List.range 256).filter fun i => regClass (BitVec.ofNat 8 i) == .reserved

/-- Whether the control registers of a full register image have no reserved bit set and a legal `cr0.PTL`
(48_supervisor.md R467, decision D42). -/
def State.controlSlotsLegal (s : State) (pas : List Nat) : Bool :=
  s.cr0Legal (s.loadSlot pas 128)
    && s.loadSlot pas 130 &&& ~~~flagsMask == 0
    && s.loadSlot pas 133 &&& ~~~0x2#64 == 0
    && s.loadSlot pas 135 &&& ~~~0xFF#64 == 0

/-- The machine-specific registers after the slots of a full image are loaded: where the machine has none the slots are ignored
(48_supervisor.md R468; log 27). -/
def State.loadMsrs (s : State) (pas : List Nat) : Vector Word 7 :=
  match s.params.msrModel with
  | .refuse => s.msr
  | .storage => Vector.ofFn fun i => s.loadSlot pas (148 + i.val)

/-- `rstregf` (48_supervisor.md R467): not a branch, and `ip` is loaded without a check. -/
def restoreRegisterFile (a : Operand) (s : State) : Result := do
  let nip := s.nextIp (2 + a.length)
  s.requireSupervisor
  s.checkOperands [a]
  let addr ← memoryAddress (s.place nip a)
  let pas ← s.validate .read addr 2048
  require (reservedSlots.all fun i => s.loadSlot pas i == 0) .prot
  require (s.controlSlotsLegal pas) .und
  .ok
    { (s.loadGprs pas).setPaging (s.loadSlot pas 128) (s.loadSlot pas 129) with
      ip := s.loadSlot pas 16
      flags := s.loadSlot pas 17 &&& flagsMask
      mode := s.loadedMode (s.loadSlot pas 18)
      flprotect := s.loadSlot pas 130
      scdp := s.loadSlot pas 131
      scsp := s.loadSlot pas 132
      sccr := s.loadSlot pas 133
      itabp := s.loadSlot pas 134
      ciread := s.loadSlot pas 135
      fcode := s.loadSlot pas 144
      pfcharp := s.loadSlot pas 145
      msr := s.loadMsrs pas }

/-- `halt` (48_supervisor.md R454). -/
def execHalt (s : State) : Host.Outcome State Fault Refusal := finish s (haltCore s)

/-- `pcfl` (48_supervisor.md R456). -/
def execPcfl (s : State) : Host.Outcome State Fault Refusal := flushPageCaches s

/-- `flall` (48_supervisor.md R457). -/
def execFlall (s : State) : Host.Outcome State Fault Refusal := finish s (flushAll s)

/-- `dflush` (48_supervisor.md R458). -/
def execDflush (a : Operand) (s : State) : Host.Outcome State Fault Refusal := finish s (flushData a s)

/-- `iflush` (48_supervisor.md R459). -/
def execIflush (a : Operand) (s : State) : Host.Outcome State Fault Refusal := finish s (flushInstructions a s)

/-- `in` (48_supervisor.md R462). -/
def execIoIn (sz : Size) (s : State) : Host.Outcome State Fault Refusal := finish s (readDevice sz s)

/-- `out` (48_supervisor.md R463). -/
def execIoOut (sz : Size) (s : State) : Host.Outcome State Fault Refusal := finish s (writeDevice sz s)

/-- `storegf` (48_supervisor.md R465). -/
def execStoregf (a : Operand) (s : State) : Host.Outcome State Fault Refusal := finish s (storeRegisterFile a s)

/-- `rstregf` (48_supervisor.md R467). -/
def execRstregf (a : Operand) (s : State) : Host.Outcome State Fault Refusal := finish s (restoreRegisterFile a s)

end Sys2Proof.Machine
end

