-- ==== Sys2Proof/Machine/Transfer.lean ====
section
/-! DEFINITION. Forcing control transfers, supervisor calls and returns (47_forcing_transfers.md). -/

namespace Sys2Proof.Machine

/-- `ModeCheck(m)` (47_forcing_transfers.md R424). -/
def State.checkMode (s : State) (m : Word) : Except Trap Unit := do
  require (m &&& ~~~(3#64 <<< 32) == 0) .und
  require (s.xm || m.getLsbD 32 == m.getLsbD 33) .prot
  require (!s.xm || m >>> 32 == s.mode >>> 32) .prot

/-- `jsm` (47_forcing_transfers.md R421). -/
def jumpSetMode (rel : Bool) (d : SizedImm) (s : State) : Result := do
  let m := s.r 0
  let dest := s.branchDest rel d
  s.checkMode m
  s.checkDestination (m.getLsbD 32) dest
  .ok { s.jump dest with mode := m }

/-- `callsm` (47_forcing_transfers.md R422): with `v`, both stores are at the addresses validated before the first (log 42). A
store that moves the destination's page counts as made after the transfer, and its fetch stops (DESIGN CHOICE, log 49). -/
def callSetMode (v : Bool) (rel : Bool) (d : SizedImm) (s : State) : Result := do
  let m := s.r 0
  let nip := s.nextIp (2 + d.bytes)
  let dest := s.branchDest rel d
  s.checkMode m
  let size : Nat := if v then 16 else 8
  let pas ← s.validate .write (s.sp - BitVec.ofNat 64 size) size
  s.checkDestination (m.getLsbD 32) dest
  let t := s.jump dest
  let t := if v then t.store (pas.drop 8) (leBytes 8 s.mode.toNat) else t
  let t := t.store (pas.take 8) (leBytes 8 nip.toNat)
  .ok { t.setR 7 (s.sp - BitVec.ofNat 64 size) with mode := m }

/-- `retrsm` (47_forcing_transfers.md R423). -/
def returnRestoreMode (s : State) : Result := do
  let pas ← s.validate .read s.sp 16
  let d := s.loadSlot pas 0
  let m := s.loadSlot pas 1
  s.checkMode m
  s.checkDestination (m.getLsbD 32) d
  .ok { (s.jump d).setR 7 (s.sp + 16) with mode := m }

/-- `sccr.fc` (10_state.md R51). -/
def State.fastCalls (s : State) : Bool := s.sccr.getLsbD 1

/-- The fast supervisor call (47_forcing_transfers.md R431). -/
def fastSupervisorCall (s : State) : Result := do
  s.checkDestination false s.scdp
  let t := s.jump s.scdp
  let t := t.setR 12 s.sp
  let t := if s.scsp = 0 then t else t.setR 7 s.scsp
  let t := (t.setR 13 s.mode).setR 14 (s.nextIp 2)
  .ok { t with mode := supervisorMode s.mode }

/-- The stack supervisor call (47_forcing_transfers.md R432, decision D40). A frame that moves the destination's page counts as
stored after the transfer (DESIGN CHOICE, log 49). -/
def stackSupervisorCall (s : State) : Result := do
  let newsp := (if s.scsp = 0 then s.sp else s.scsp) - 32
  let pas ← s.validateSupervisor .write newsp 32
  s.checkDestination false s.scdp
  let t := ((s.jump s.scdp).store pas (wordsBytes (s.frame (s.nextIp 2)))).setR 7 newsp
  .ok { t with mode := supervisorMode s.mode }

/-- `scall` (47_forcing_transfers.md R430). -/
def supervisorCall (s : State) : Result := do
  require s.xm .prot
  require (s.scdp != 0) .prot
  if s.fastCalls then fastSupervisorCall s else stackSupervisorCall s

/-- `int` (47_forcing_transfers.md R435, decisions D4, D29). A table that cannot be read is found again, and dealt with, by the
delivery (60_exceptions.md R507; log 32). -/
def softwareInterrupt (i : BitVec 4) (s : State) : Result :=
  let n := 16 + i.toNat
  let nip := s.nextIp 2
  if s.ie then
    match s.tableEntry n with
    | .error .outOfBounds => raise .prot
    | .error _ => .ok (s.deliver n nip)
    | .ok e => if s.xm && !e.px then raise .prot else .ok (s.deliver n nip)
  else .ok (s.jump nip)

/-- `scret` (47_forcing_transfers.md R440). -/
def supervisorReturn (s : State) : Result := do
  s.requireSupervisor
  if s.fastCalls then do
    let d := s.r 14
    let m := s.r 13
    s.checkDestination (m.getLsbD 32) d
    .ok { (s.jump d).setR 7 (s.r 12) with mode := s.loadedMode m }
  else s.returnFromException

/-- `reti` (47_forcing_transfers.md R441). -/
def interruptReturn (s : State) : Result := do
  s.requireSupervisor
  s.returnFromException

/-- `scall` (47_forcing_transfers.md R430). -/
def execScall (s : State) : Host.Outcome State Fault Refusal := finish s (supervisorCall s)

/-- `int` (47_forcing_transfers.md R435). -/
def execInt (i : BitVec 4) (s : State) : Host.Outcome State Fault Refusal := finish s (softwareInterrupt i s)

/-- `jsm` (47_forcing_transfers.md R421). -/
def execJsmAbs (d : SizedImm) (s : State) : Host.Outcome State Fault Refusal := finish s (jumpSetMode false d s)

/-- `callsm` (47_forcing_transfers.md R422). -/
def execCallsmAbs (v : Bool) (d : SizedImm) (s : State) : Host.Outcome State Fault Refusal :=
  finish s (callSetMode v false d s)

/-- `retrsm` (47_forcing_transfers.md R423). -/
def execRetrsm (s : State) : Host.Outcome State Fault Refusal := finish s (returnRestoreMode s)

/-- `jsm` (47_forcing_transfers.md R421). -/
def execJsmRel (d : SizedImm) (s : State) : Host.Outcome State Fault Refusal := finish s (jumpSetMode true d s)

/-- `callsm` (47_forcing_transfers.md R422). -/
def execCallsmRel (v : Bool) (d : SizedImm) (s : State) : Host.Outcome State Fault Refusal :=
  finish s (callSetMode v true d s)

/-- `scret` (47_forcing_transfers.md R440). -/
def execScret (s : State) : Host.Outcome State Fault Refusal := finish s (supervisorReturn s)

/-- `reti` (47_forcing_transfers.md R441). -/
def execReti (s : State) : Host.Outcome State Fault Refusal := finish s (interruptReturn s)

end Sys2Proof.Machine
end

