-- ==== Sys2Proof/Machine/Undefined.lean ====
section
/-! DEFINITION. The opcodes that are always undefined (40_undefined_alu_muldiv.md section 1) and the machine-specific opcodes,
which raise UND unless the machine provides them (48_supervisor.md R451, decision D19; log 28). -/

namespace Sys2Proof.Machine

/-- An instruction that raises UND in either mode. -/
def undefinedInstruction (s : State) : Host.Outcome State Fault Refusal := finish s (raise .und)

/-- A machine-specific opcode: UND in either mode where the machine does not provide it; otherwise PROT in program mode, and an
effect the spec does not give (48_supervisor.md R451, 30_encoding.md R203). -/
def machineInstruction (opcode : BitVec 12) (s : State) : Host.Outcome State Fault Refusal :=
  finish s
    (if s.params.machineInsn.contains opcode then
      if s.xm then raise .prot else .error (.refuse (.machineSpecificInstruction opcode.toNat))
    else raise .und)

/-- `und` (40_undefined_alu_muldiv.md R230). -/
def execUnd000 (_h : BitVec 4) (s : State) : Host.Outcome State Fault Refusal := undefinedInstruction s

/-- `machine_0xfe0` (48_supervisor.md R451). -/
def execMachineFe0 (_h : BitVec 4) (s : State) : Host.Outcome State Fault Refusal := machineInstruction 0xFE0 s

/-- `machine_0xfe1` (48_supervisor.md R451). -/
def execMachineFe1 (_h : BitVec 4) (s : State) : Host.Outcome State Fault Refusal := machineInstruction 0xFE1 s

/-- `machine_0xfe2` (48_supervisor.md R451). -/
def execMachineFe2 (_h : BitVec 4) (s : State) : Host.Outcome State Fault Refusal := machineInstruction 0xFE2 s

/-- `machine_0xfe3` (48_supervisor.md R451). -/
def execMachineFe3 (_h : BitVec 4) (s : State) : Host.Outcome State Fault Refusal := machineInstruction 0xFE3 s

/-- `machine_0xfe4` (48_supervisor.md R451). -/
def execMachineFe4 (_h : BitVec 4) (s : State) : Host.Outcome State Fault Refusal := machineInstruction 0xFE4 s

/-- `machine_0xfe5` (48_supervisor.md R451). -/
def execMachineFe5 (_h : BitVec 4) (s : State) : Host.Outcome State Fault Refusal := machineInstruction 0xFE5 s

/-- `machine_0xfe6` (48_supervisor.md R451). -/
def execMachineFe6 (_h : BitVec 4) (s : State) : Host.Outcome State Fault Refusal := machineInstruction 0xFE6 s

/-- `machine_0xfe7` (48_supervisor.md R451). -/
def execMachineFe7 (_h : BitVec 4) (s : State) : Host.Outcome State Fault Refusal := machineInstruction 0xFE7 s

/-- `machine_0xfe8` (48_supervisor.md R451). -/
def execMachineFe8 (_h : BitVec 4) (s : State) : Host.Outcome State Fault Refusal := machineInstruction 0xFE8 s

/-- `machine_0xfe9` (48_supervisor.md R451). -/
def execMachineFe9 (_h : BitVec 4) (s : State) : Host.Outcome State Fault Refusal := machineInstruction 0xFE9 s

/-- `machine_0xfea` (48_supervisor.md R451). -/
def execMachineFea (_h : BitVec 4) (s : State) : Host.Outcome State Fault Refusal := machineInstruction 0xFEA s

/-- `machine_0xfeb` (48_supervisor.md R451). -/
def execMachineFeb (_h : BitVec 4) (s : State) : Host.Outcome State Fault Refusal := machineInstruction 0xFEB s

/-- `machine_0xfec` (48_supervisor.md R451). -/
def execMachineFec (_h : BitVec 4) (s : State) : Host.Outcome State Fault Refusal := machineInstruction 0xFEC s

/-- `machine_0xfed` (48_supervisor.md R451). -/
def execMachineFed (_h : BitVec 4) (s : State) : Host.Outcome State Fault Refusal := machineInstruction 0xFED s

/-- `machine_0xfee` (48_supervisor.md R451). -/
def execMachineFee (_h : BitVec 4) (s : State) : Host.Outcome State Fault Refusal := machineInstruction 0xFEE s

/-- `machine_0xfef` (48_supervisor.md R451). -/
def execMachineFef (_h : BitVec 4) (s : State) : Host.Outcome State Fault Refusal := machineInstruction 0xFEF s

/-- `machine_0xff0` (48_supervisor.md R451). -/
def execMachineFf0 (_h : BitVec 4) (s : State) : Host.Outcome State Fault Refusal := machineInstruction 0xFF0 s

/-- `machine_0xff1` (48_supervisor.md R451). -/
def execMachineFf1 (_h : BitVec 4) (s : State) : Host.Outcome State Fault Refusal := machineInstruction 0xFF1 s

/-- `machine_0xff2` (48_supervisor.md R451). -/
def execMachineFf2 (_h : BitVec 4) (s : State) : Host.Outcome State Fault Refusal := machineInstruction 0xFF2 s

/-- `machine_0xff3` (48_supervisor.md R451). -/
def execMachineFf3 (_h : BitVec 4) (s : State) : Host.Outcome State Fault Refusal := machineInstruction 0xFF3 s

/-- `machine_0xff4` (48_supervisor.md R451). -/
def execMachineFf4 (_h : BitVec 4) (s : State) : Host.Outcome State Fault Refusal := machineInstruction 0xFF4 s

/-- `machine_0xff5` (48_supervisor.md R451). -/
def execMachineFf5 (_h : BitVec 4) (s : State) : Host.Outcome State Fault Refusal := machineInstruction 0xFF5 s

/-- `machine_0xff6` (48_supervisor.md R451). -/
def execMachineFf6 (_h : BitVec 4) (s : State) : Host.Outcome State Fault Refusal := machineInstruction 0xFF6 s

/-- `machine_0xff7` (48_supervisor.md R451). -/
def execMachineFf7 (_h : BitVec 4) (s : State) : Host.Outcome State Fault Refusal := machineInstruction 0xFF7 s

/-- `machine_0xff8` (48_supervisor.md R451). -/
def execMachineFf8 (_h : BitVec 4) (s : State) : Host.Outcome State Fault Refusal := machineInstruction 0xFF8 s

/-- `machine_0xff9` (48_supervisor.md R451). -/
def execMachineFf9 (_h : BitVec 4) (s : State) : Host.Outcome State Fault Refusal := machineInstruction 0xFF9 s

/-- `machine_0xffa` (48_supervisor.md R451). -/
def execMachineFfa (_h : BitVec 4) (s : State) : Host.Outcome State Fault Refusal := machineInstruction 0xFFA s

/-- `machine_0xffb` (48_supervisor.md R451). -/
def execMachineFfb (_h : BitVec 4) (s : State) : Host.Outcome State Fault Refusal := machineInstruction 0xFFB s

/-- `machine_0xffc` (48_supervisor.md R451). -/
def execMachineFfc (_h : BitVec 4) (s : State) : Host.Outcome State Fault Refusal := machineInstruction 0xFFC s

/-- `machine_0xffd` (48_supervisor.md R451). -/
def execMachineFfd (_h : BitVec 4) (s : State) : Host.Outcome State Fault Refusal := machineInstruction 0xFFD s

/-- `machine_0xffe` (48_supervisor.md R451). -/
def execMachineFfe (_h : BitVec 4) (s : State) : Host.Outcome State Fault Refusal := machineInstruction 0xFFE s

/-- `und` (40_undefined_alu_muldiv.md R231). -/
def execUndFFF (_h : BitVec 4) (s : State) : Host.Outcome State Fault Refusal := undefinedInstruction s

end Sys2Proof.Machine
end

