-- ==== Sys2Proof/Machine/Dispatch.lean ====
section
/-! DEFINITION. Each instruction and its meaning (30_encoding.md R200). -/

namespace Sys2Proof.Machine

def exec (i : Instr) (s : State) : Host.Outcome State Fault Refusal :=
  match i with
  | .und000 h => Sys2Proof.Machine.execUnd000 h s
  | .add l f a b => Sys2Proof.Machine.execAdd l f a b s
  | .sub l f a b => Sys2Proof.Machine.execSub l f a b s
  | .and l f a b => Sys2Proof.Machine.execAnd l f a b s
  | .or l f a b => Sys2Proof.Machine.execOr l f a b s
  | .xor l f a b => Sys2Proof.Machine.execXor l f a b s
  | .mul sz f => Sys2Proof.Machine.execMul sz f s
  | .div sz w f => Sys2Proof.Machine.execDiv sz w f s
  | .mov a b => Sys2Proof.Machine.execMov a b s
  | .lea a b => Sys2Proof.Machine.execLea a b s
  | .movTogpr r a => Sys2Proof.Machine.execMovTogpr r a s
  | .movFromgpr r a => Sys2Proof.Machine.execMovFromgpr r a s
  | .leaTogpr r a => Sys2Proof.Machine.execLeaTogpr r a s
  | .nop => Sys2Proof.Machine.execNop s
  | .nop1 a => Sys2Proof.Machine.execNop1 a s
  | .nop2 a b => Sys2Proof.Machine.execNop2 a b s
  | .nop3 a b c => Sys2Proof.Machine.execNop3 a b c s
  | .push a => Sys2Proof.Machine.execPush a s
  | .pop a => Sys2Proof.Machine.execPop a s
  | .pushReg r => Sys2Proof.Machine.execPushReg r s
  | .popReg r => Sys2Proof.Machine.execPopReg r s
  | .stogpr a => Sys2Proof.Machine.execStogpr a s
  | .stoar a => Sys2Proof.Machine.execStoar a s
  | .rstogpr a => Sys2Proof.Machine.execRstogpr a s
  | .rstoar a => Sys2Proof.Machine.execRstoar a s
  | .pushgpr => Sys2Proof.Machine.execPushgpr s
  | .pushar => Sys2Proof.Machine.execPushar s
  | .popgpr => Sys2Proof.Machine.execPopgpr s
  | .popar => Sys2Proof.Machine.execPopar s
  | .movsx f a b => Sys2Proof.Machine.execMovsx f a b s
  | .bswap f a b => Sys2Proof.Machine.execBswap f a b s
  | .lsh l f a b => Sys2Proof.Machine.execLsh l f a b s
  | .rsh l f a b => Sys2Proof.Machine.execRsh l f a b s
  | .arsh l f a b => Sys2Proof.Machine.execArsh l f a b s
  | .lshc l f a b => Sys2Proof.Machine.execLshc l f a b s
  | .rshc l f a b => Sys2Proof.Machine.execRshc l f a b s
  | .lrot l f a b => Sys2Proof.Machine.execLrot l f a b s
  | .rrot l f a b => Sys2Proof.Machine.execRrot l f a b s
  | .lshGpr r a => Sys2Proof.Machine.execLshGpr r a s
  | .rshGpr r a => Sys2Proof.Machine.execRshGpr r a s
  | .arshGpr r a => Sys2Proof.Machine.execArshGpr r a s
  | .lshcGpr r a => Sys2Proof.Machine.execLshcGpr r a s
  | .rshcGpr r a => Sys2Proof.Machine.execRshcGpr r a s
  | .lrotGpr r a => Sys2Proof.Machine.execLrotGpr r a s
  | .rrotGpr r a => Sys2Proof.Machine.execRrotGpr r a s
  | .imul sz f => Sys2Proof.Machine.execImul sz f s
  | .addTogpr r a => Sys2Proof.Machine.execAddTogpr r a s
  | .subTogpr r a => Sys2Proof.Machine.execSubTogpr r a s
  | .andTogpr r a => Sys2Proof.Machine.execAndTogpr r a s
  | .orTogpr r a => Sys2Proof.Machine.execOrTogpr r a s
  | .xorTogpr r a => Sys2Proof.Machine.execXorTogpr r a s
  | .bnot l f a => Sys2Proof.Machine.execBnot l f a s
  | .neg l f a => Sys2Proof.Machine.execNeg l f a s
  | .idiv sz w f => Sys2Proof.Machine.execIdiv sz w f s
  | .addFromgpr r a => Sys2Proof.Machine.execAddFromgpr r a s
  | .subFromgpr r a => Sys2Proof.Machine.execSubFromgpr r a s
  | .andFromgpr r a => Sys2Proof.Machine.execAndFromgpr r a s
  | .orFromgpr r a => Sys2Proof.Machine.execOrFromgpr r a s
  | .xorFromgpr r a => Sys2Proof.Machine.execXorFromgpr r a s
  | .bnotGpr r => Sys2Proof.Machine.execBnotGpr r s
  | .negGpr r => Sys2Proof.Machine.execNegGpr r s
  | .cmovt cc a b c => Sys2Proof.Machine.execCmovt cc a b c s
  | .cmov cc a b => Sys2Proof.Machine.execCmov cc a b s
  | .cmp a b => Sys2Proof.Machine.execCmp a b s
  | .test a b => Sys2Proof.Machine.execTest a b s
  | .cmpGpr r a => Sys2Proof.Machine.execCmpGpr r a s
  | .testGpr r a => Sys2Proof.Machine.execTestGpr r a s
  | .xchg a b => Sys2Proof.Machine.execXchg a b s
  | .cmpxchg a b c => Sys2Proof.Machine.execCmpxchg a b c s
  | .wcmpxchg a b c => Sys2Proof.Machine.execWcmpxchg a b c s
  | .fence => Sys2Proof.Machine.execFence s
  | .jpAbs16 w d => Sys2Proof.Machine.execJpAbs16 w d s
  | .jcAbs16 w d => Sys2Proof.Machine.execJcAbs16 w d s
  | .jvAbs16 w d => Sys2Proof.Machine.execJvAbs16 w d s
  | .jzAbs16 w d => Sys2Proof.Machine.execJzAbs16 w d s
  | .jltAbs16 w d => Sys2Proof.Machine.execJltAbs16 w d s
  | .jleAbs16 w d => Sys2Proof.Machine.execJleAbs16 w d s
  | .jbeAbs16 w d => Sys2Proof.Machine.execJbeAbs16 w d s
  | .jmiAbs16 w d => Sys2Proof.Machine.execJmiAbs16 w d s
  | .jplAbs16 w d => Sys2Proof.Machine.execJplAbs16 w d s
  | .jaAbs16 w d => Sys2Proof.Machine.execJaAbs16 w d s
  | .jgtAbs16 w d => Sys2Proof.Machine.execJgtAbs16 w d s
  | .jgeAbs16 w d => Sys2Proof.Machine.execJgeAbs16 w d s
  | .jnzAbs16 w d => Sys2Proof.Machine.execJnzAbs16 w d s
  | .jnvAbs16 w d => Sys2Proof.Machine.execJnvAbs16 w d s
  | .jncAbs16 w d => Sys2Proof.Machine.execJncAbs16 w d s
  | .jnpAbs16 w d => Sys2Proof.Machine.execJnpAbs16 w d s
  | .jpRel16 w d => Sys2Proof.Machine.execJpRel16 w d s
  | .jcRel16 w d => Sys2Proof.Machine.execJcRel16 w d s
  | .jvRel16 w d => Sys2Proof.Machine.execJvRel16 w d s
  | .jzRel16 w d => Sys2Proof.Machine.execJzRel16 w d s
  | .jltRel16 w d => Sys2Proof.Machine.execJltRel16 w d s
  | .jleRel16 w d => Sys2Proof.Machine.execJleRel16 w d s
  | .jbeRel16 w d => Sys2Proof.Machine.execJbeRel16 w d s
  | .jmiRel16 w d => Sys2Proof.Machine.execJmiRel16 w d s
  | .jplRel16 w d => Sys2Proof.Machine.execJplRel16 w d s
  | .jaRel16 w d => Sys2Proof.Machine.execJaRel16 w d s
  | .jgtRel16 w d => Sys2Proof.Machine.execJgtRel16 w d s
  | .jgeRel16 w d => Sys2Proof.Machine.execJgeRel16 w d s
  | .jnzRel16 w d => Sys2Proof.Machine.execJnzRel16 w d s
  | .jnvRel16 w d => Sys2Proof.Machine.execJnvRel16 w d s
  | .jncRel16 w d => Sys2Proof.Machine.execJncRel16 w d s
  | .jnpRel16 w d => Sys2Proof.Machine.execJnpRel16 w d s
  | .jpAbs32 w d => Sys2Proof.Machine.execJpAbs32 w d s
  | .jcAbs32 w d => Sys2Proof.Machine.execJcAbs32 w d s
  | .jvAbs32 w d => Sys2Proof.Machine.execJvAbs32 w d s
  | .jzAbs32 w d => Sys2Proof.Machine.execJzAbs32 w d s
  | .jltAbs32 w d => Sys2Proof.Machine.execJltAbs32 w d s
  | .jleAbs32 w d => Sys2Proof.Machine.execJleAbs32 w d s
  | .jbeAbs32 w d => Sys2Proof.Machine.execJbeAbs32 w d s
  | .jmiAbs32 w d => Sys2Proof.Machine.execJmiAbs32 w d s
  | .jplAbs32 w d => Sys2Proof.Machine.execJplAbs32 w d s
  | .jaAbs32 w d => Sys2Proof.Machine.execJaAbs32 w d s
  | .jgtAbs32 w d => Sys2Proof.Machine.execJgtAbs32 w d s
  | .jgeAbs32 w d => Sys2Proof.Machine.execJgeAbs32 w d s
  | .jnzAbs32 w d => Sys2Proof.Machine.execJnzAbs32 w d s
  | .jnvAbs32 w d => Sys2Proof.Machine.execJnvAbs32 w d s
  | .jncAbs32 w d => Sys2Proof.Machine.execJncAbs32 w d s
  | .jnpAbs32 w d => Sys2Proof.Machine.execJnpAbs32 w d s
  | .jpRel32 w d => Sys2Proof.Machine.execJpRel32 w d s
  | .jcRel32 w d => Sys2Proof.Machine.execJcRel32 w d s
  | .jvRel32 w d => Sys2Proof.Machine.execJvRel32 w d s
  | .jzRel32 w d => Sys2Proof.Machine.execJzRel32 w d s
  | .jltRel32 w d => Sys2Proof.Machine.execJltRel32 w d s
  | .jleRel32 w d => Sys2Proof.Machine.execJleRel32 w d s
  | .jbeRel32 w d => Sys2Proof.Machine.execJbeRel32 w d s
  | .jmiRel32 w d => Sys2Proof.Machine.execJmiRel32 w d s
  | .jplRel32 w d => Sys2Proof.Machine.execJplRel32 w d s
  | .jaRel32 w d => Sys2Proof.Machine.execJaRel32 w d s
  | .jgtRel32 w d => Sys2Proof.Machine.execJgtRel32 w d s
  | .jgeRel32 w d => Sys2Proof.Machine.execJgeRel32 w d s
  | .jnzRel32 w d => Sys2Proof.Machine.execJnzRel32 w d s
  | .jnvRel32 w d => Sys2Proof.Machine.execJnvRel32 w d s
  | .jncRel32 w d => Sys2Proof.Machine.execJncRel32 w d s
  | .jnpRel32 w d => Sys2Proof.Machine.execJnpRel32 w d s
  | .jpAbs64 w d => Sys2Proof.Machine.execJpAbs64 w d s
  | .jcAbs64 w d => Sys2Proof.Machine.execJcAbs64 w d s
  | .jvAbs64 w d => Sys2Proof.Machine.execJvAbs64 w d s
  | .jzAbs64 w d => Sys2Proof.Machine.execJzAbs64 w d s
  | .jltAbs64 w d => Sys2Proof.Machine.execJltAbs64 w d s
  | .jleAbs64 w d => Sys2Proof.Machine.execJleAbs64 w d s
  | .jbeAbs64 w d => Sys2Proof.Machine.execJbeAbs64 w d s
  | .jmiAbs64 w d => Sys2Proof.Machine.execJmiAbs64 w d s
  | .jplAbs64 w d => Sys2Proof.Machine.execJplAbs64 w d s
  | .jaAbs64 w d => Sys2Proof.Machine.execJaAbs64 w d s
  | .jgtAbs64 w d => Sys2Proof.Machine.execJgtAbs64 w d s
  | .jgeAbs64 w d => Sys2Proof.Machine.execJgeAbs64 w d s
  | .jnzAbs64 w d => Sys2Proof.Machine.execJnzAbs64 w d s
  | .jnvAbs64 w d => Sys2Proof.Machine.execJnvAbs64 w d s
  | .jncAbs64 w d => Sys2Proof.Machine.execJncAbs64 w d s
  | .jnpAbs64 w d => Sys2Proof.Machine.execJnpAbs64 w d s
  | .jpRel64 w d => Sys2Proof.Machine.execJpRel64 w d s
  | .jcRel64 w d => Sys2Proof.Machine.execJcRel64 w d s
  | .jvRel64 w d => Sys2Proof.Machine.execJvRel64 w d s
  | .jzRel64 w d => Sys2Proof.Machine.execJzRel64 w d s
  | .jltRel64 w d => Sys2Proof.Machine.execJltRel64 w d s
  | .jleRel64 w d => Sys2Proof.Machine.execJleRel64 w d s
  | .jbeRel64 w d => Sys2Proof.Machine.execJbeRel64 w d s
  | .jmiRel64 w d => Sys2Proof.Machine.execJmiRel64 w d s
  | .jplRel64 w d => Sys2Proof.Machine.execJplRel64 w d s
  | .jaRel64 w d => Sys2Proof.Machine.execJaRel64 w d s
  | .jgtRel64 w d => Sys2Proof.Machine.execJgtRel64 w d s
  | .jgeRel64 w d => Sys2Proof.Machine.execJgeRel64 w d s
  | .jnzRel64 w d => Sys2Proof.Machine.execJnzRel64 w d s
  | .jnvRel64 w d => Sys2Proof.Machine.execJnvRel64 w d s
  | .jncRel64 w d => Sys2Proof.Machine.execJncRel64 w d s
  | .jnpRel64 w d => Sys2Proof.Machine.execJnpRel64 w d s
  | .jmpAbs d => Sys2Proof.Machine.execJmpAbs d s
  | .callAbs d => Sys2Proof.Machine.execCallAbs d s
  | .fcallAbs d => Sys2Proof.Machine.execFcallAbs d s
  | .ret => Sys2Proof.Machine.execRet s
  | .scall => Sys2Proof.Machine.execScall s
  | .int n => Sys2Proof.Machine.execInt n s
  | .ijmpAbs r => Sys2Proof.Machine.execIjmpAbs r s
  | .fretAbs => Sys2Proof.Machine.execFretAbs s
  | .ifjmpAbs => Sys2Proof.Machine.execIfjmpAbs s
  | .icallAbs r => Sys2Proof.Machine.execIcallAbs r s
  | .ifcallAbs => Sys2Proof.Machine.execIfcallAbs s
  | .jsmAbs d => Sys2Proof.Machine.execJsmAbs d s
  | .callsmAbs v d => Sys2Proof.Machine.execCallsmAbs v d s
  | .retrsm => Sys2Proof.Machine.execRetrsm s
  | .jmpRel d => Sys2Proof.Machine.execJmpRel d s
  | .callRel d => Sys2Proof.Machine.execCallRel d s
  | .fcallRel d => Sys2Proof.Machine.execFcallRel d s
  | .ijmpRel r => Sys2Proof.Machine.execIjmpRel r s
  | .fretRel => Sys2Proof.Machine.execFretRel s
  | .ifjmpRel => Sys2Proof.Machine.execIfjmpRel s
  | .icallRel r => Sys2Proof.Machine.execIcallRel r s
  | .ifcallRel => Sys2Proof.Machine.execIfcallRel s
  | .jsmRel d => Sys2Proof.Machine.execJsmRel d s
  | .callsmRel v d => Sys2Proof.Machine.execCallsmRel v d s
  | .halt => Sys2Proof.Machine.execHalt s
  | .pcfl => Sys2Proof.Machine.execPcfl s
  | .flall => Sys2Proof.Machine.execFlall s
  | .dflush a => Sys2Proof.Machine.execDflush a s
  | .iflush a => Sys2Proof.Machine.execIflush a s
  | .ioIn sz => Sys2Proof.Machine.execIoIn sz s
  | .ioOut sz => Sys2Proof.Machine.execIoOut sz s
  | .storegf a => Sys2Proof.Machine.execStoregf a s
  | .rstregf a => Sys2Proof.Machine.execRstregf a s
  | .scret => Sys2Proof.Machine.execScret s
  | .reti => Sys2Proof.Machine.execReti s
  | .machineFe0 h => Sys2Proof.Machine.execMachineFe0 h s
  | .machineFe1 h => Sys2Proof.Machine.execMachineFe1 h s
  | .machineFe2 h => Sys2Proof.Machine.execMachineFe2 h s
  | .machineFe3 h => Sys2Proof.Machine.execMachineFe3 h s
  | .machineFe4 h => Sys2Proof.Machine.execMachineFe4 h s
  | .machineFe5 h => Sys2Proof.Machine.execMachineFe5 h s
  | .machineFe6 h => Sys2Proof.Machine.execMachineFe6 h s
  | .machineFe7 h => Sys2Proof.Machine.execMachineFe7 h s
  | .machineFe8 h => Sys2Proof.Machine.execMachineFe8 h s
  | .machineFe9 h => Sys2Proof.Machine.execMachineFe9 h s
  | .machineFea h => Sys2Proof.Machine.execMachineFea h s
  | .machineFeb h => Sys2Proof.Machine.execMachineFeb h s
  | .machineFec h => Sys2Proof.Machine.execMachineFec h s
  | .machineFed h => Sys2Proof.Machine.execMachineFed h s
  | .machineFee h => Sys2Proof.Machine.execMachineFee h s
  | .machineFef h => Sys2Proof.Machine.execMachineFef h s
  | .machineFf0 h => Sys2Proof.Machine.execMachineFf0 h s
  | .machineFf1 h => Sys2Proof.Machine.execMachineFf1 h s
  | .machineFf2 h => Sys2Proof.Machine.execMachineFf2 h s
  | .machineFf3 h => Sys2Proof.Machine.execMachineFf3 h s
  | .machineFf4 h => Sys2Proof.Machine.execMachineFf4 h s
  | .machineFf5 h => Sys2Proof.Machine.execMachineFf5 h s
  | .machineFf6 h => Sys2Proof.Machine.execMachineFf6 h s
  | .machineFf7 h => Sys2Proof.Machine.execMachineFf7 h s
  | .machineFf8 h => Sys2Proof.Machine.execMachineFf8 h s
  | .machineFf9 h => Sys2Proof.Machine.execMachineFf9 h s
  | .machineFfa h => Sys2Proof.Machine.execMachineFfa h s
  | .machineFfb h => Sys2Proof.Machine.execMachineFfb h s
  | .machineFfc h => Sys2Proof.Machine.execMachineFfc h s
  | .machineFfd h => Sys2Proof.Machine.execMachineFfd h s
  | .machineFfe h => Sys2Proof.Machine.execMachineFfe h s
  | .undFFF h => Sys2Proof.Machine.execUndFFF h s

end Sys2Proof.Machine
end

