-- ==== Sys2Proof/Machine/Events.lean ====
section
/-! DEFINITION. Asynchronous events, looked at between instructions (60_exceptions.md R510 to R513, R517, R528). -/

namespace Sys2Proof.Machine

/-- An asynchronous event. -/
inductive Event
  | injected (n : Nat)
  | nmi
  | irq (k : Nat)
  deriving DecidableEq, Repr

/-- The pending interrupt request with the lowest number, as its bit (60_exceptions.md R517). -/
def State.lowestIrq (s : State) : Option Nat := (List.range 32).find? fun k => s.pendingIrq.getLsbD k

/-- The asynchronous event to take before the next instruction, if any (60_exceptions.md R511 to R513, R517; log 33): none until an
instruction has run after the last delivery; an injected number not while halted (R528). -/
def State.nextEvent (s : State) : Option Event :=
  if s.eventsHeld then none
  else if s.injected ≠ 0 ∧ s.halted = false then some (.injected s.injected.toNat)
  else if s.pendingNmi then some .nmi
  else if s.ie then s.lowestIrq.map .irq
  else none

/-- `fcode` after an injected exception: 0 for PROT, otherwise undefined (60_exceptions.md R487; log 14). -/
def State.injectedFcode (s : State) (n : Nat) : Word := if n = 2 then 0 else Config.freeFcode s.draws

/-- Take an event: it is no longer pending, and its number is delivered with `ip` saved (60_exceptions.md R505, R510). An injected
number 3 involves no access and writes no fault record, whatever `pfcharp` is; the spec does not say (DESIGN CHOICE, log 45). -/
def State.takeEvent (s : State) (e : Event) : State :=
  let t := { s with eventsHeld := true }
  match e with
  | .injected n =>
    if n ≤ 15 then { t with injected := 0, fcode := s.injectedFcode n }.deliver n s.ip
    else { t with injected := 0 }.deliver n s.ip
  | .nmi => { t with pendingNmi := false, fcode := Config.freeFcode s.draws }.deliver 5 s.ip
  | .irq k => { t with pendingIrq := s.pendingIrq &&& ~~~(1#32 <<< k) }.deliver (32 + k) s.ip

end Sys2Proof.Machine
end

