-- ==== Sys2Proof/Machine/Fetch.lean ====
section
/-! DEFINITION. Fetching an instruction (30_encoding.md R173; 60_exceptions.md R488 to R492). -/

namespace Sys2Proof.Machine

/-- The two bytes at `a`, or why they cannot be fetched: the page fault of the access (60_exceptions.md R488; log 26), or code
whose mapping changed under it (70_reset_and_hazards.md R551; log 25). -/
def State.fetchPair (s : State) (a : Word) : Except Trap (List Byte) := do
  let p ← paged (s.translate s.xm .fetch a)
  if s.sameCodePage a then .ok (s.fetchUnit a p) else .error (.fault .pagingChangedUnderCode)

/-- The bytes of up to `n` units from `a`, and why there are no more, if a fetch failed. -/
def State.fetchBytes (s : State) : (n : Nat) → (a : Word) → List Byte × Option Trap
  | 0, _ => ([], none)
  | n + 1, a =>
    match s.fetchPair a with
    | .ok bs =>
      let rest := State.fetchBytes s n (a + 2)
      (bs ++ rest.1, rest.2)
    | .error t => ([], some t)

/-- Whether the bytes start with the opcode word of a supervisor instruction. -/
def startsSupervisor : List Byte → Bool
  | b0 :: b1 :: _ => supervisorOpcode (b0 ++ b1)
  | _ => false

/-- What an instruction that does not decode raises: UND for the opcode word; then PROT for a supervisor instruction in
program mode; then the failed fetch or UND for an operand (60_exceptions.md R490 to R492, decision D36). -/
def State.decodeTrap (s : State) (bs : List Byte) (stop : Option Trap) : DecodeError → Trap
  | .undefinedOpcode => .exc .und
  | .reservedH => .exc .und
  | .malformedOperand => if s.xm && startsSupervisor bs then .exc .prot else .exc .und
  | .truncated => if s.xm && startsSupervisor bs then .exc .prot else stop.getD (.exc .und)

/-- The instruction at `ip`, or what its fetch raises (60_exceptions.md R488). -/
def State.fetch (s : State) : Except Trap Instr := do
  require (!s.ip.getLsbD 0) (.xa s.ip)
  let f := s.fetchBytes maxUnits s.ip
  match decode f.1 with
  | .ok d => .ok d.1
  | .error e => .error (s.decodeTrap f.1 f.2 e)

end Sys2Proof.Machine
end

