-- ==== Sys2Proof/Machine/Step.lean ====
section
/-! DEFINITION. One step of the machine, and the placing of an instruction where the next step fetches it. -/

namespace Sys2Proof.Machine

/-- The state after an instruction has run: asynchronous events are looked at again (60_exceptions.md R517), and the free values
move on (log 34). -/
def State.tick (s : State) : State := { s with eventsHeld := false, draws := s.draws + 1 }

/-- What an instruction leaves, with the counters moved on. -/
def ticked : Host.Outcome State Fault Refusal → Host.Outcome State Fault Refusal
  | .next t => .next t.tick
  | .fault f => .fault f
  | .refused r => .refused r

/-- One step: an asynchronous event is delivered, or a halted CPU stays as it is (48_supervisor.md R454), or one instruction is
fetched and executed, or the exception of its fetch is taken. -/
def step (s : State) : Host.Outcome State Fault Refusal :=
  match s.nextEvent with
  | some e => .next { s.takeEvent e with draws := s.draws + 1 }
  | none =>
    if s.halted then .next s
    else
      match s.fetch with
      | .ok i => ticked (exec i s)
      | .error t => ticked (finish s (.error t))

/-- The bytes of an opcode-table word placed at `ip` for the next step to run (log 5): in physical memory, through the mapping in
force, with no store or change of mapping left that its fetch could miss; no event is taken before it. -/
def State.withFetchWord (s : State) (nbits w : Nat) : State :=
  let start := s.ip &&& ~~~1#64
  let cells := (tableBytes nbits w).zipIdx.filterMap fun c =>
    match s.translate s.xm .fetch (start + BitVec.ofNat 64 c.2) with
    | .ok p => some (p, c.1)
    | .error _ => none
  { s with
    ip := start
    mem := Memory.setMany s.mem (cells.map Prod.fst) (cells.map Prod.snd)
    recent := []
    codeView := none
    halted := false
    eventsHeld := s.eventsHeld || s.nextEvent.isSome || s.halted }

end Sys2Proof.Machine
end

