-- ==== Sys2Proof/Safety.lean ====
section
/-! DEFINITION. The terms in which claims about the machine are stated: its invariant, what a store and a transfer leave, and
names for groups of instructions. -/

namespace Sys2Proof.Machine

/-- What every step keeps: memory in its canonical form; no reserved bit in `flags`, `cr0`, `flprotect` and `ciread`, and
`cr0.PTL` at most `cpuex2.VAS` (10_state.md R31, R45, R46, R48, R53). -/
structure State.Inv (s : State) : Prop where
  memory : Memory.wf s.mem = true
  flagsReserved : s.flags &&& ~~~flagsMask = 0
  cr0Legal : s.cr0Legal s.cr0 = true
  flprotectReserved : s.flprotect &&& ~~~flagsMask = 0
  cireadReserved : s.ciread &&& ~~~0xFF#64 = 0

/-- Every register and device word that only the supervisor may change is the same in both states (60_exceptions.md R520). -/
structure SameSupervisor (s t : State) : Prop where
  cr0 : t.cr0 = s.cr0
  page : t.page = s.page
  flprotect : t.flprotect = s.flprotect
  scdp : t.scdp = s.scdp
  scsp : t.scsp = s.scsp
  sccr : t.sccr = s.sccr
  itabp : t.itabp = s.itabp
  ciread : t.ciread = s.ciread
  fcode : t.fcode = s.fcode
  pfcharp : t.pfcharp = s.pfcharp
  msr : t.msr = s.msr
  enableWord : t.enableWord = s.enableWord
  loadPointer : t.loadPointer = s.loadPointer
  startUp : t.startUp = s.startUp
  halted : t.halted = s.halted

/-- Every CPUInfo register and parameter is the same in both states (10_state.md R54 to R56). -/
structure SameConstants (s t : State) : Prop where
  cpuidlo : t.cpuidlo = s.cpuidlo
  cpuidhi : t.cpuidhi = s.cpuidhi
  cpuex2 : t.cpuex2 = s.cpuex2
  cpuex3 : t.cpuex3 = s.cpuex3
  cpuex4 : t.cpuex4 = s.cpuex4
  cpuex5 : t.cpuex5 = s.cpuex5
  cpuex6 : t.cpuex6 = s.cpuex6
  mscpuex : t.mscpuex = s.mscpuex
  params : t.params = s.params

/-- `u` differs from `s` in memory and in what fetches and walks may miss of the store, and possibly in the general registers,
`flags`, `mode` and `ip`; nothing else. -/
def StoreFrame (s u : State) : Prop :=
  u = { s with mem := u.mem, recent := u.recent, ptHistory := u.ptHistory, gpr := u.gpr, flags := u.flags, mode := u.mode,
               ip := u.ip, codeView := u.codeView }

/-- The physical addresses `pas` hold `bs`, and every other byte of memory is as before. -/
def StoredAt (s u : State) (pas : List Nat) (bs : List Byte) : Prop :=
  u.bytesAt pas = bs ∧ ∀ a, a ∉ pas → u.mem.get a = s.mem.get a

/-- Every general register but those listed is the same in both states. -/
def SameRegistersBut (s u : State) (rs : List (BitVec 4)) : Prop := ∀ j, j ∉ rs → u.r j = s.r j

/-- The bytes a store to `pas` replaces. -/
def State.replaced (s : State) (pas : List Nat) : List Host.Cell := pas.map fun p => (p, s.mem.get p)

/-- The state after a control transfer from `s` to `d` that made the given stores, newest first: `ip` is at the destination, no
mapping is remembered as changed, and every store but these is Execution Visible to every fetch (46_branches.md R395; 20_memory.md
R160; 70_reset_and_hazards.md R551). -/
def Arrived (s u : State) (d : Word) (stores : List (List Nat)) : Prop :=
  u.ip = d ∧ u.codeView = none ∧ u.recent.map StoreRecord.old = stores.map s.replaced

/-- Whether a branch to `d` passes its checks with the rights of a mode (46_branches.md R394, R396). -/
def State.branchAllowed (s : State) (xm : Bool) (d : Word) : Prop :=
  d.getLsbD 0 = false ∧ ∃ pas, s.translateRange xm .fetch d 1 = .ok pas

/-- The stack pointer that a delivery through a table entry starts from (60_exceptions.md R501, R504). -/
def State.entryStack (s : State) (e : TableEntry) : Word := if e.stack = 0 then s.sp else e.stack

/-- `u` is `s` after a delivery through entry `e` that stored the frame at `pas` (60_exceptions.md R504). -/
structure Delivered (s u : State) (e : TableEntry) (pas : List Nat) (frame : List Word) : Prop where
  stored : StoredAt s u pas (wordsBytes frame)
  stack : u.sp = s.entryStack e - 32
  registers : SameRegistersBut s u [7]
  flags : u.flags = s.flags
  mode : u.mode = s.mode &&& ~~~(3#64 <<< 32)
  arrived : Arrived s u e.handler [pas]
  running : u.halted = false
  rest : StoreFrame { s with halted := false } u

/-- Entry `n` can be read, its frame written at `pas` and its handler executed, with supervisor rights (60_exceptions.md R504). -/
def State.canEnter (s : State) (n : Nat) (e : TableEntry) (pas : List Nat) : Prop :=
  s.tableEntry n = .ok e ∧ s.branchAllowed false e.handler ∧ s.translateRange false .write (s.entryStack e - 32) 32 = .ok pas

/-- Number `n` lies in the table but cannot be serviced: the entry is no valid memory, its handler is odd or not executable, or the
frame not writable (60_exceptions.md R507). -/
def State.cannotService (s : State) (n : Nat) : Prop :=
  s.tableEntry n = .error .unserviceable ∨ ∃ e, s.tableEntry n = .ok e ∧
    (e.handler.getLsbD 0 = true ∨ (∃ f, s.translateRange false .fetch e.handler 1 = .error f) ∨
      ∃ f, s.translateRange false .write (s.entryStack e - 32) 32 = .error f)

/-- No device answers at an address: it is reserved, or of a CPU the machine does not have, or of no device of the machine
(60_exceptions.md R527, 20_memory.md R86). -/
def State.noDevice (s : State) (a : Nat) : Prop :=
  a < 0x7f00 ∨ (0x7f80 ≤ a ∧ a < 0xff00 ∧ a ≠ 0xfe80) ∨ (0x10000 ≤ a ∧ a < 2 ^ 32) ∨
    (2 ^ 32 ≤ a ∧ ∀ r ∈ s.params.ioDevices, a < r.1 ∨ r.1 + r.2 ≤ a) ∨
    ∃ n, n < 128 ∧ s.params.ncpu ≤ n ∧ (a = 0x7f00 + n ∨ a = 0xff00 + n ∨ a = 0xff80 + n)

/-- The address after an instruction with one operand (30_encoding.md R172). -/
abbrev State.nip1 (s : State) (a : Operand) : Word := s.nextIp (2 + a.length)

/-- The address after an instruction with two operands. -/
abbrev State.nip2 (s : State) (a b : Operand) : Word := s.nextIp (2 + a.length + b.length)

/-- The address after an instruction with three operands. -/
abbrev State.nip3 (s : State) (a b c : Operand) : Word := s.nextIp (2 + a.length + b.length + c.length)

/-- The address after an instruction with a destination immediate. -/
abbrev State.nipDest (s : State) (d : SizedImm) : Word := s.nextIp (2 + d.bytes)

/-- The checks of a two-operand arithmetic or shift instruction pass, `y` is the value of operand 2, `t` operand 1 as a
destination and `x` its value (40_undefined_alu_muldiv.md R232). -/
structure State.AluReady (s : State) (l : Bool) (a b : Operand) (x y : Word) (t : Target) : Prop where
  classes : s.checkOperands [a, b] = .ok ()
  oneGprOrImm : (s.place (s.nip2 a b) a).isGpr = true ∨ (s.place (s.nip2 a b) b).isImm = true ∨
    (s.place (s.nip2 a b) b).isGpr = true
  lock : l = true → (s.place (s.nip2 a b) a).isMem = true
  notIp : (s.place (s.nip2 a b) a).isRegister 16 = false
  notFlags : (s.place (s.nip2 a b) a).isRegister 17 = false
  source : s.readPlace (s.nip2 a b) (s.place (s.nip2 a b) b) = .ok y
  target : s.openTarget (s.place (s.nip2 a b) a) = .ok t
  value : s.readTarget (s.nip2 a b) t = .ok x

/-- The checks of an instruction whose one operand is destination and source pass, `t` is the destination and `x` its value
(43_convert_shift_unary.md R332, R343). -/
structure State.TargetReady (s : State) (a : Operand) (x : Word) (t : Target) : Prop where
  classes : s.checkOperands [a] = .ok ()
  notIp : (s.place (s.nip1 a) a).isRegister 16 = false
  notFlags : (s.place (s.nip1 a) a).isRegister 17 = false
  target : s.openTarget (s.place (s.nip1 a) a) = .ok t
  value : s.readTarget (s.nip1 a) t = .ok x

/-- The checks of a move with two operands pass, `v` is the value of operand 2 and `t` operand 1 as a destination
(41_mov_nop_stack.md R260, 43_convert_shift_unary.md R310). -/
structure State.MoveReady (s : State) (a b : Operand) (v : Word) (t : Target) : Prop where
  classes : s.checkOperands [a, b] = .ok ()
  oneReg : (s.place (s.nip2 a b) a).isReg = true ∨ (s.place (s.nip2 a b) b).isReg = true
  notIp : (s.place (s.nip2 a b) a).isRegister 16 = false
  notFlags : (s.place (s.nip2 a b) a).isRegister 17 = false
  source : s.readPlace (s.nip2 a b) (s.place (s.nip2 a b) b) = .ok v
  target : s.openTarget (s.place (s.nip2 a b) a) = .ok t

/-- The checks of an atomic operation on its first two operands pass, which are the destinations `t` and `u`
(45_atomic_fence.md R370). -/
structure State.AtomicReady (s : State) (nip : Word) (a b : Operand) (t u : Target) : Prop where
  oneReg : (s.place nip a).isReg = true ∨ (s.place nip b).isReg = true
  notIp : (s.place nip a).isRegister 16 = false ∧ (s.place nip b).isRegister 16 = false
  notFlags : (s.place nip a).isRegister 17 = false ∧ (s.place nip b).isRegister 17 = false
  first : s.openTarget (s.place nip a) = .ok t
  second : s.openTarget (s.place nip b) = .ok u

/-- The page-table entries of the path of an address, from the table at `t` of a level down, as the memory holds them
(20_memory.md R112, R113). -/
def State.path (s : State) (bits : Nat) (b : Word) : (level : Nat) → (t : Nat) → List Word
  | level, t =>
    let e : Word := BitVec.ofNat 64 (s.load ((List.range 8).map (t + 8 * tableIndex bits level b + ·)))
    match level with
    | 0 => [e]
    | l + 1 => e :: State.path s bits b l (addressPart e)

/-- The value of `ip` that an instruction with a destination immediate observes (10_state.md R26; log 10). -/
abbrev State.ipDest (s : State) (d : SizedImm) : Word := s.observedIp (s.nipDest d)

/-- The destination of a branch: the immediate zero-extended, or sign-extended and added to the observed `ip`
(46_branches.md R395). -/
def State.destination (s : State) (rel : Bool) (d : SizedImm) : Word :=
  if rel then immSext d + s.ipDest d else immZext d

/-- The destination of an indirect branch through register `r` (46_branches.md R405). -/
def State.registerDest (s : State) (rel : Bool) (r : BitVec 4) : Word :=
  if rel then s.r r + s.observedIp (s.ip + 2) else s.r r

/-- The condition, destination form and destination of a conditional branch (46_branches.md R393). -/
def conditionalBranch : Instr → Option (Cond × Bool × SizedImm)
  | .jpAbs16 _ d => some (.p, false, .i16 d)
  | .jcAbs16 _ d => some (.c, false, .i16 d)
  | .jvAbs16 _ d => some (.v, false, .i16 d)
  | .jzAbs16 _ d => some (.z, false, .i16 d)
  | .jltAbs16 _ d => some (.lt, false, .i16 d)
  | .jleAbs16 _ d => some (.le, false, .i16 d)
  | .jbeAbs16 _ d => some (.be, false, .i16 d)
  | .jmiAbs16 _ d => some (.mi, false, .i16 d)
  | .jplAbs16 _ d => some (.pl, false, .i16 d)
  | .jaAbs16 _ d => some (.a, false, .i16 d)
  | .jgtAbs16 _ d => some (.gt, false, .i16 d)
  | .jgeAbs16 _ d => some (.ge, false, .i16 d)
  | .jnzAbs16 _ d => some (.nz, false, .i16 d)
  | .jnvAbs16 _ d => some (.nv, false, .i16 d)
  | .jncAbs16 _ d => some (.nc, false, .i16 d)
  | .jnpAbs16 _ d => some (.np, false, .i16 d)
  | .jpRel16 _ d => some (.p, true, .i16 d)
  | .jcRel16 _ d => some (.c, true, .i16 d)
  | .jvRel16 _ d => some (.v, true, .i16 d)
  | .jzRel16 _ d => some (.z, true, .i16 d)
  | .jltRel16 _ d => some (.lt, true, .i16 d)
  | .jleRel16 _ d => some (.le, true, .i16 d)
  | .jbeRel16 _ d => some (.be, true, .i16 d)
  | .jmiRel16 _ d => some (.mi, true, .i16 d)
  | .jplRel16 _ d => some (.pl, true, .i16 d)
  | .jaRel16 _ d => some (.a, true, .i16 d)
  | .jgtRel16 _ d => some (.gt, true, .i16 d)
  | .jgeRel16 _ d => some (.ge, true, .i16 d)
  | .jnzRel16 _ d => some (.nz, true, .i16 d)
  | .jnvRel16 _ d => some (.nv, true, .i16 d)
  | .jncRel16 _ d => some (.nc, true, .i16 d)
  | .jnpRel16 _ d => some (.np, true, .i16 d)
  | .jpAbs32 _ d => some (.p, false, .i32 d)
  | .jcAbs32 _ d => some (.c, false, .i32 d)
  | .jvAbs32 _ d => some (.v, false, .i32 d)
  | .jzAbs32 _ d => some (.z, false, .i32 d)
  | .jltAbs32 _ d => some (.lt, false, .i32 d)
  | .jleAbs32 _ d => some (.le, false, .i32 d)
  | .jbeAbs32 _ d => some (.be, false, .i32 d)
  | .jmiAbs32 _ d => some (.mi, false, .i32 d)
  | .jplAbs32 _ d => some (.pl, false, .i32 d)
  | .jaAbs32 _ d => some (.a, false, .i32 d)
  | .jgtAbs32 _ d => some (.gt, false, .i32 d)
  | .jgeAbs32 _ d => some (.ge, false, .i32 d)
  | .jnzAbs32 _ d => some (.nz, false, .i32 d)
  | .jnvAbs32 _ d => some (.nv, false, .i32 d)
  | .jncAbs32 _ d => some (.nc, false, .i32 d)
  | .jnpAbs32 _ d => some (.np, false, .i32 d)
  | .jpRel32 _ d => some (.p, true, .i32 d)
  | .jcRel32 _ d => some (.c, true, .i32 d)
  | .jvRel32 _ d => some (.v, true, .i32 d)
  | .jzRel32 _ d => some (.z, true, .i32 d)
  | .jltRel32 _ d => some (.lt, true, .i32 d)
  | .jleRel32 _ d => some (.le, true, .i32 d)
  | .jbeRel32 _ d => some (.be, true, .i32 d)
  | .jmiRel32 _ d => some (.mi, true, .i32 d)
  | .jplRel32 _ d => some (.pl, true, .i32 d)
  | .jaRel32 _ d => some (.a, true, .i32 d)
  | .jgtRel32 _ d => some (.gt, true, .i32 d)
  | .jgeRel32 _ d => some (.ge, true, .i32 d)
  | .jnzRel32 _ d => some (.nz, true, .i32 d)
  | .jnvRel32 _ d => some (.nv, true, .i32 d)
  | .jncRel32 _ d => some (.nc, true, .i32 d)
  | .jnpRel32 _ d => some (.np, true, .i32 d)
  | .jpAbs64 _ d => some (.p, false, .i64 d)
  | .jcAbs64 _ d => some (.c, false, .i64 d)
  | .jvAbs64 _ d => some (.v, false, .i64 d)
  | .jzAbs64 _ d => some (.z, false, .i64 d)
  | .jltAbs64 _ d => some (.lt, false, .i64 d)
  | .jleAbs64 _ d => some (.le, false, .i64 d)
  | .jbeAbs64 _ d => some (.be, false, .i64 d)
  | .jmiAbs64 _ d => some (.mi, false, .i64 d)
  | .jplAbs64 _ d => some (.pl, false, .i64 d)
  | .jaAbs64 _ d => some (.a, false, .i64 d)
  | .jgtAbs64 _ d => some (.gt, false, .i64 d)
  | .jgeAbs64 _ d => some (.ge, false, .i64 d)
  | .jnzAbs64 _ d => some (.nz, false, .i64 d)
  | .jnvAbs64 _ d => some (.nv, false, .i64 d)
  | .jncAbs64 _ d => some (.nc, false, .i64 d)
  | .jnpAbs64 _ d => some (.np, false, .i64 d)
  | .jpRel64 _ d => some (.p, true, .i64 d)
  | .jcRel64 _ d => some (.c, true, .i64 d)
  | .jvRel64 _ d => some (.v, true, .i64 d)
  | .jzRel64 _ d => some (.z, true, .i64 d)
  | .jltRel64 _ d => some (.lt, true, .i64 d)
  | .jleRel64 _ d => some (.le, true, .i64 d)
  | .jbeRel64 _ d => some (.be, true, .i64 d)
  | .jmiRel64 _ d => some (.mi, true, .i64 d)
  | .jplRel64 _ d => some (.pl, true, .i64 d)
  | .jaRel64 _ d => some (.a, true, .i64 d)
  | .jgtRel64 _ d => some (.gt, true, .i64 d)
  | .jgeRel64 _ d => some (.ge, true, .i64 d)
  | .jnzRel64 _ d => some (.nz, true, .i64 d)
  | .jnvRel64 _ d => some (.nv, true, .i64 d)
  | .jncRel64 _ d => some (.nc, true, .i64 d)
  | .jnpRel64 _ d => some (.np, true, .i64 d)
  | _ => none

/-- The opcodes that raise UND in either mode (40_undefined_alu_muldiv.md R230, R231). -/
def alwaysUndefined : Instr → Bool
  | .und000 _ => true
  | .undFFF _ => true
  | _ => false

/-- The opcode of a machine-specific instruction (48_supervisor.md R451). -/
def machineOpcode : Instr → Option (BitVec 12)
  | .machineFe0 _ => some 0xFE0
  | .machineFe1 _ => some 0xFE1
  | .machineFe2 _ => some 0xFE2
  | .machineFe3 _ => some 0xFE3
  | .machineFe4 _ => some 0xFE4
  | .machineFe5 _ => some 0xFE5
  | .machineFe6 _ => some 0xFE6
  | .machineFe7 _ => some 0xFE7
  | .machineFe8 _ => some 0xFE8
  | .machineFe9 _ => some 0xFE9
  | .machineFea _ => some 0xFEA
  | .machineFeb _ => some 0xFEB
  | .machineFec _ => some 0xFEC
  | .machineFed _ => some 0xFED
  | .machineFee _ => some 0xFEE
  | .machineFef _ => some 0xFEF
  | .machineFf0 _ => some 0xFF0
  | .machineFf1 _ => some 0xFF1
  | .machineFf2 _ => some 0xFF2
  | .machineFf3 _ => some 0xFF3
  | .machineFf4 _ => some 0xFF4
  | .machineFf5 _ => some 0xFF5
  | .machineFf6 _ => some 0xFF6
  | .machineFf7 _ => some 0xFF7
  | .machineFf8 _ => some 0xFF8
  | .machineFf9 _ => some 0xFF9
  | .machineFfa _ => some 0xFFA
  | .machineFfb _ => some 0xFFB
  | .machineFfc _ => some 0xFFC
  | .machineFfd _ => some 0xFFD
  | .machineFfe _ => some 0xFFE
  | _ => none

/-- The supervisor instructions (60_exceptions.md R521). -/
def privileged : Instr → Bool
  | .halt => true
  | .pcfl => true
  | .flall => true
  | .dflush _ => true
  | .iflush _ => true
  | .ioIn _ => true
  | .ioOut _ => true
  | .storegf _ => true
  | .rstregf _ => true
  | .scret => true
  | .reti => true
  | _ => false

end Sys2Proof.Machine
end

