-- ==== Sys2Proof/Certificates/Slice0/Obligations.lean ====
section
/-! DEFINITION. The statements about the machine. Each docstring names the rules of the spec it formalises; a decision D<n> is
the spec's own (spec/92_eei_decisions.md), a log entry is a file of notes/assumptions. -/

open Sys2Proof Sys2Proof.Machine

/-- O1. The state after initialisation holds the values the spec gives, whatever the boot image (10_state.md R65,
70_reset_and_hazards.md R541). -/
def Obligations.ResetValues : Prop :=
  State.reset = State.initial [] ∧
  ∀ image : List Byte,
    let s := State.initial image
    s.ip = 0xff00 ∧ s.flags = 0 ∧ s.cr0 = 0 ∧ s.flprotect = 0 ∧ s.ciread = 0 ∧ s.mode = 0 ∧
    s.cpuex2.getLsbD 0 = true ∧ s.cpuex3 = 0 ∧ s.cpuex4 = 0 ∧ s.cpuex5 = 0 ∧ s.cpuex6 = 0 ∧
    (∀ a, s.mem.get a = if a < 0x10000 then image.getD a 0 else 0) ∧ s.halted = false ∧
    s.pendingIrq = 0 ∧ s.pendingNmi = false ∧ s.injected = 0 ∧ s.enableWord[0] = 3 ∧
    ∀ n : Fin 128, s.cpuEnabled n = decide (n.val = 0) ∧ s.cpuActive n = decide (n.val = 0)

/-- O2. The state after initialisation with any boot image meets the invariant (10_state.md R65, 60_exceptions.md
R498). -/
def Obligations.ResetInvariant : Prop :=
  State.Inv State.reset ∧ ∀ image : List Byte, State.Inv (State.initial image)

/-- O3. Writing n bytes to a general register clears the other bytes and changes no other register (R24). -/
def Obligations.RegisterOperandWrite : Prop :=
  ∀ (s : State) (r : BitVec 8) (h : r.toNat < 16) (z z' : Size) (v nip : Word),
    ∃ t, s.writeTarget (.reg r z) (truncBits z.bits v) = .ok t ∧
      t.gpr[r.toNat].toNat = v.toNat % 2 ^ (8 * z.bytes) ∧
      (∀ j : Fin 16, j.val ≠ r.toNat → t.gpr[j] = s.gpr[j]) ∧
      t = { s with gpr := t.gpr } ∧
      (∃ w, t.readRegister nip r z' = .ok w ∧ w.toNat = t.gpr[r.toNat].toNat % 2 ^ (8 * z'.bytes))

/-- O4. An explicit write to flags changes exactly the defined bits that flprotect leaves open in program mode
(10_state.md R31, 10_state.md R48). -/
def Obligations.FlagsOperandWrite : Prop :=
  ∀ (s : State) (z : Size) (v : Word), ∃ t, s.writeTarget (.reg 17 z) (truncBits z.bits v) = .ok t ∧
    (∀ i, i < 64 → t.flags.getLsbD i =
      if i < 5 ∧ ¬(s.xm = true ∧ s.flprotect.getLsbD i = true) then v.getLsbD i else s.flags.getLsbD i) ∧
    t = { s with flags := t.flags }

/-- O5. Which register operands are refused, which values writeback validation admits, and what an admitted write
leaves (60_exceptions.md R493, 60_exceptions.md R498, 30_encoding.md R186, 10_state.md R46, 10_state.md R47,
10_state.md R60). -/
def Obligations.WritebackValidation : Prop :=
  (∀ (s : State) (ops : List Operand),
    let names := fun (q : Nat → Prop) => ∃ z r, Operand.reg z r ∈ ops ∧ q r.toNat
    let reservedNumber := fun n => (19 ≤ n ∧ n ≤ 127) ∨ n = 146 ∨ n = 147 ∨ 155 ≤ n
    let closed := fun n => (128 ≤ n ∧ n ≤ 135) ∨ n = 144 ∨ n = 145 ∨ (148 ≤ n ∧ n ≤ 154) ∨
      (136 ≤ n ∧ n ≤ 143 ∧ s.ciread.getLsbD (n - 136) = false)
    (names reservedNumber → s.checkOperands ops = raise .und) ∧
    (¬names reservedNumber → s.xm = true ∧ names closed → s.checkOperands ops = raise .prot) ∧
    (¬names reservedNumber → ¬(s.xm = true ∧ names closed) → s.checkOperands ops = .ok ())) ∧
  (∀ (s : State) (r : BitVec 8) (v : Word),
    let n := r.toNat
    let readOnly := n = 16 ∨ n = 18 ∨ (136 ≤ n ∧ n ≤ 143)
    let badCr0 := n = 128 ∧ ((v &&& ~~~0x3B#64) ≠ 0 ∨ s.vas < ptlOf v)
    let reserved := (n = 130 ∧ (v &&& ~~~0x1F#64) ≠ 0) ∨ (n = 133 ∧ (v &&& ~~~0x2#64) ≠ 0) ∨
      (n = 135 ∧ (v &&& ~~~0xFF#64) ≠ 0)
    let machineSpecific := 148 ≤ n ∧ n ≤ 154
    let pagingFlags := n = 128 ∧ v.getLsbD 0 = true ∧ s.pg = false ∧ s.page.toNat % 4096 ≠ 0
    (readOnly ∨ badCr0 ∨ reserved → s.writebackCheck r v = raise .und) ∧
    (machineSpecific →
      (s.params.msrModel = .refuse → s.writebackCheck r v = .error (.refuse (.machineSpecificRegister n)) ∧
        ∀ nip z, s.readRegister nip r z = .error (.refuse (.machineSpecificRegister n))) ∧
      (s.params.msrModel = .storage → (s.writebackCheck r v = raise .und ∨ s.writebackCheck r v = .ok ()) ∧
        ∀ nip z, s.readRegister nip r z = .ok (truncBits z.bits (s.msr.toList.getD (n - 148) 0)))) ∧
    (pagingFlags → ¬badCr0 → s.writebackCheck r v = raise (.pf s.bareFault)) ∧
    (¬readOnly → ¬badCr0 → ¬reserved → ¬machineSpecific → ¬pagingFlags → s.writebackCheck r v = .ok ())) ∧
  (∀ (s : State) (v : Word),
    let paging := fun cr0 page : Word =>
      let switched := s.pg ≠ cr0.getLsbD 0 ∨ s.page ≠ page
      { s with
        cr0 := cr0
        page := page
        ptHistory := if switched then [] else s.ptHistory
        syncOrder := if switched then .pageFlush :: .dataFlushAll :: s.syncOrder else s.syncOrder
        codeView :=
          if switched ∨ ptlOf s.cr0 ≠ ptlOf cr0 then some (s.codeView.getD { cr0 := s.cr0, page := s.page })
          else s.codeView }
    s.writeReg 128 v = paging v s.page ∧ s.writeReg 129 v = paging s.cr0 v ∧
    s.writeReg 130 v = { s with flprotect := v } ∧ s.writeReg 131 v = { s with scdp := v } ∧
    s.writeReg 132 v = { s with scsp := v } ∧ s.writeReg 133 v = { s with sccr := v } ∧
    s.writeReg 134 v = { s with itabp := v } ∧ s.writeReg 135 v = { s with ciread := v } ∧
    s.writeReg 144 v = { s with fcode := v } ∧ s.writeReg 145 v = { s with pfcharp := v } ∧
    ∀ i : Fin 7, s.writeReg (BitVec.ofNat 8 (148 + i.val)) v = { s with msr := s.msr.set i.val v })

/-- O6. A store to a memory operand changes exactly its bytes, least significant first (20_memory.md R82,
30_encoding.md R194, 20_memory.md R106). -/
def Obligations.MemoryOperandWrite : Prop :=
  ∀ (s : State) (addr v : Word) (z : Size) (t : Target), s.openTarget (.mem addr z) = .ok t →
    ∃ pas u, s.translateRange s.xm .write addr z.bytes = .ok pas ∧ t = .mem pas ∧
      s.writeTarget t (truncBits z.bits v) = .ok u ∧
      StoredAt s u pas (leBytes z.bytes (v.toNat % 2 ^ z.bits)) ∧
      (u.loadWord pas).toNat = v.toNat % 2 ^ z.bits ∧
      u = { s with mem := u.mem, recent := u.recent, ptHistory := u.ptHistory }

/-- O7. Translation keeps the offset in the page and yields only valid physical addresses (20_memory.md R100,
20_memory.md R112, 20_memory.md R113). -/
def Obligations.TranslationKeepsOffset : Prop :=
  ∀ (s : State) (xm : Bool) (kind : Access) (b : Word) (p : Nat), s.translate xm kind b = .ok p →
    p % 4096 = b.toNat % 4096 ∧ p < 2 ^ (32 + 4 * s.pas) ∧ s.params.allocatable p = true ∧
      (s.pg = false → p = b.toNat)

/-- O8. An access goes through only where every entry of its path allows it (20_memory.md R113, 20_memory.md R118,
20_memory.md R119, 20_memory.md R120, 20_memory.md R121). -/
def Obligations.TranslationRights : Prop :=
  ∀ (s : State) (xm : Bool) (kind : Access) (b : Word) (p bits : Nat), s.pg = true → s.ptHistory = [] →
    addressBits (ptlOf s.cr0) = some bits → s.translate xm kind b = .ok p →
    let path := s.path bits b (topLevel (ptlOf s.cr0)) (addressPart s.page)
    (∀ e ∈ path, field e 0 2 ≠ 0 ∧ field e 5 5 = 0 ∧ (xm = true → e.getLsbD 2 = true)) ∧
    (∀ e ∈ path.dropLast, field e 0 2 = 1) ∧
    (∀ e, path.getLast? = some e →
      p = addressPart e + b.toNat % 4096 ∧ (kind = .write → field e 0 2 = 2) ∧ (kind = .fetch → field e 0 2 = 3)) ∧
    (kind = .fetch → xm = false → ∀ e ∈ path, e.getLsbD 4 = false)

/-- O9. With no store outstanding, a fetch reads memory at the translated addresses and stops where one does not
translate (20_memory.md R107, 20_memory.md R155, 20_memory.md R156, 60_exceptions.md R488). -/
def Obligations.FetchReadsMemory : Prop :=
  ∀ (s : State) (n : Nat) (a : Word), s.recent = [] → s.codeView = none →
    (∀ p : Nat → Nat, a.getLsbD 0 = false → (∀ i, i < n → s.translate s.xm .fetch (a + BitVec.ofNat 64 (2 * i)) = .ok (p i)) →
      s.fetchBytes n a = ((List.range n).flatMap fun i => [s.mem.get (p i), s.mem.get (p i + 1)], none) ∧
      ∀ f m, s.translate s.xm .fetch (a + BitVec.ofNat 64 (2 * n)) = .error f →
        s.fetchBytes (n + 1 + m) a =
          ((List.range n).flatMap fun i => [s.mem.get (p i), s.mem.get (p i + 1)], some (.exc (.pf f)))) ∧
    (s.pg = false → a.toNat + 2 * n < 2 ^ 64 → (∀ i, i < 2 * n → s.physCheck (a.toNat + i) = .valid) →
      s.fetchBytes n a = ((List.range (2 * n)).map fun i => s.mem.get (a.toNat + i), none))

/-- O10. C and V of an addition and a subtraction are the unsigned and the signed overflow (10_state.md R32,
10_state.md R33, 10_state.md R34, 10_state.md R35, 10_state.md R36). -/
def Obligations.ArithmeticFlags : Prop :=
  ∀ (fl x y : Word) (n : Nat), 1 ≤ n → n ≤ 64 → x.toNat < 2 ^ n → y.toNat < 2 ^ n →
    let fits := fun v : Int => decide (-(2 ^ (n - 1) : Int) ≤ v ∧ v < 2 ^ (n - 1))
    let sum := signedOf n x.toNat + signedOf n y.toNat
    let difference := signedOf n x.toNat - signedOf n y.toNat
    let a := addFlags fl x y n
    let b := subFlags fl x y n
    (a.getLsbD bitC = decide (2 ^ n ≤ x.toNat + y.toNat) ∧ a.getLsbD bitV = !fits sum ∧
      a.getLsbD bitZ = decide ((x.toNat + y.toNat) % 2 ^ n = 0) ∧
      a.getLsbD bitN = ((x.toNat + y.toNat) % 2 ^ n).testBit (n - 1)) ∧
    (b.getLsbD bitC = decide (x.toNat < y.toNat) ∧ b.getLsbD bitV = !fits difference ∧
      b.getLsbD bitZ = decide (x = y) ∧ b.getLsbD bitN = ((x.toNat + 2 ^ n - y.toNat) % 2 ^ n).testBit (n - 1)) ∧
    (∀ i, 4 ≤ i → a.getLsbD i = fl.getLsbD i ∧ b.getLsbD i = fl.getLsbD i)

/-- O11. The sixteen condition codes test the flags the table gives, and code 15-k negates code k (46_branches.md
R392). -/
def Obligations.ConditionCodes : Prop :=
  ∀ t : Word,
    let c := t.getLsbD 0
    let z := t.getLsbD 1
    let v := t.getLsbD 2
    let n := t.getLsbD 3
    let p := t.getLsbD 4
    ([0, 1, 2, 3, 4, 5, 6, 7, 8, 9, 10, 11, 12, 13, 14, 15].map fun k => condHolds (Cond.ofCode (BitVec.ofNat 4 k)) t) =
      [p, c, v, z, n != v, n != v || z, c || z, n, !n, !c && !z, n == v && !z, n == v, !z, !v, !c, !p] ∧
    ∀ k : BitVec 4, condHolds (Cond.ofCode (15 - k)) t = !condHolds (Cond.ofCode k) t

/-- O12. After cmp the signed and unsigned condition codes compare the two operands (44_cmov_compare.md R355,
44_cmov_compare.md R356, 46_branches.md R392). -/
def Obligations.CompareThenCondition : Prop :=
  ∀ (a b : Operand) (s : State) (x y : Word), s.checkOperands [a, b] = .ok () →
    (s.place (s.nip2 a b) a).isImm = false →
    ¬((s.place (s.nip2 a b) a).isMem = true ∧ (s.place (s.nip2 a b) b).isMem = true) →
    s.readPlace (s.nip2 a b) (s.place (s.nip2 a b) a) = .ok x →
    s.readPlace (s.nip2 a b) (s.place (s.nip2 a b) b) = .ok y →
    let n := max (s.place (s.nip2 a b) a).bits (s.place (s.nip2 a b) b).bits
    let sx := signedOf n x.toNat
    let sy := signedOf n y.toNat
    ∃ u, exec (.cmp a b) s = .next u ∧ u = { s with flags := u.flags, ip := s.nip2 a b } ∧
      (∀ i, 4 ≤ i → u.flags.getLsbD i = s.flags.getLsbD i) ∧
      condHolds .lt u.flags = decide (sx < sy) ∧ condHolds .le u.flags = decide (sx ≤ sy) ∧
      condHolds .gt u.flags = decide (sy < sx) ∧ condHolds .ge u.flags = decide (sy ≤ sx) ∧
      condHolds .c u.flags = decide (x.toNat < y.toNat) ∧ condHolds .be u.flags = decide (x.toNat ≤ y.toNat) ∧
      condHolds .a u.flags = decide (y.toNat < x.toNat) ∧ condHolds .nc u.flags = decide (y.toNat ≤ x.toNat) ∧
      condHolds .z u.flags = decide (x = y) ∧ condHolds .nz u.flags = decide (x ≠ y)

/-- O13. add, sub, and, or, xor store the result in operand 1 and set the flags unless f (40_undefined_alu_muldiv.md
R232 to R237). -/
def Obligations.AluTwoOperand : Prop :=
  ∀ (l f : Bool) (a b : Operand) (s : State) (x y : Word) (t : Target), s.AluReady l a b x y t →
    let n := (s.place (s.nip2 a b) a).bits
    let done := fun v fl : Word => { s.setTarget v t with flags := if f then s.flags else fl, ip := s.nip2 a b }
    let sum := truncBits n (x + y)
    let difference := truncBits n (x - y)
    let conjunction := truncBits n (x &&& y)
    let disjunction := truncBits n (x ||| y)
    let exclusive := truncBits n (x ^^^ y)
    (s.checkTarget sum t = .ok () → exec (.add l f a b) s = .next (done sum (addFlags s.flags x y n))) ∧
    (s.checkTarget difference t = .ok () → exec (.sub l f a b) s = .next (done difference (subFlags s.flags x y n))) ∧
    (s.checkTarget conjunction t = .ok () →
      exec (.and l f a b) s = .next (done conjunction (logicFlags s.flags conjunction n))) ∧
    (s.checkTarget disjunction t = .ok () →
      exec (.or l f a b) s = .next (done disjunction (logicFlags s.flags disjunction n))) ∧
    (s.checkTarget exclusive t = .ok () →
      exec (.xor l f a b) s = .next (done exclusive (logicFlags s.flags exclusive n)))

/-- O14. The gpr forms of add, sub, and, or, xor store the result in the named register or operand and set the flags
(43_convert_shift_unary.md R337 to R342, 43_convert_shift_unary.md R343 to R348). -/
def Obligations.AluWithGpr : Prop :=
  (∀ (r : BitVec 4) (a : Operand) (s : State) (y : Word), s.checkOperands [a] = .ok () →
    s.readPlace (s.nip1 a) (s.place (s.nip1 a) a) = .ok y →
    let x := s.r r
    let done := fun v fl : Word => { s.setR r v with flags := fl, ip := s.nip1 a }
    exec (.addTogpr r a) s = .next (done (x + y) (addFlags s.flags x y 64)) ∧
    exec (.subTogpr r a) s = .next (done (x - y) (subFlags s.flags x y 64)) ∧
    exec (.andTogpr r a) s = .next (done (x &&& y) (logicFlags s.flags (x &&& y) 64)) ∧
    exec (.orTogpr r a) s = .next (done (x ||| y) (logicFlags s.flags (x ||| y) 64)) ∧
    exec (.xorTogpr r a) s = .next (done (x ^^^ y) (logicFlags s.flags (x ^^^ y) 64))) ∧
  (∀ (r : BitVec 4) (a : Operand) (s : State) (x : Word) (t : Target), s.TargetReady a x t →
    let y := s.r r
    let n := (s.place (s.nip1 a) a).bits
    let done := fun v fl : Word => { s.setTarget v t with flags := fl, ip := s.nip1 a }
    let sum := truncBits n (x + y)
    let difference := truncBits n (x - y)
    let conjunction := truncBits n (x &&& y)
    let disjunction := truncBits n (x ||| y)
    let exclusive := truncBits n (x ^^^ y)
    (s.checkTarget sum t = .ok () → exec (.addFromgpr r a) s = .next (done sum (addFlags s.flags x y n))) ∧
    (s.checkTarget difference t = .ok () →
      exec (.subFromgpr r a) s = .next (done difference (subFlags s.flags x y n))) ∧
    (s.checkTarget conjunction t = .ok () →
      exec (.andFromgpr r a) s = .next (done conjunction (logicFlags s.flags conjunction n))) ∧
    (s.checkTarget disjunction t = .ok () →
      exec (.orFromgpr r a) s = .next (done disjunction (logicFlags s.flags disjunction n))) ∧
    (s.checkTarget exclusive t = .ok () →
      exec (.xorFromgpr r a) s = .next (done exclusive (logicFlags s.flags exclusive n))))

/-- O15. mul and imul leave the double-width product in r3 and r0 (40_undefined_alu_muldiv.md R240,
40_undefined_alu_muldiv.md R241, 40_undefined_alu_muldiv.md R243). -/
def Obligations.Multiply : Prop :=
  ∀ (z : Size) (f : Bool) (s : State),
    let n := z.bits
    let x := (s.r 0).toNat % 2 ^ n
    let y := (s.r 3).toNat % 2 ^ n
    (∃ u, exec (.mul z f) s = .next u ∧ (u.r 0).toNat < 2 ^ n ∧ (u.r 3).toNat < 2 ^ n ∧
      (u.r 0).toNat + 2 ^ n * (u.r 3).toNat = x * y ∧
      u = { s with gpr := u.gpr, flags := u.flags, ip := s.ip + 2 } ∧ SameRegistersBut s u [0, 3] ∧
        (if f then u.flags = s.flags else ∃ c v, u.flags = setCV (setZN s.flags (u.r 0) n) c v)) ∧
    (∃ u, exec (.imul z f) s = .next u ∧ (u.r 0).toNat < 2 ^ n ∧ (u.r 3).toNat < 2 ^ n ∧
      ((u.r 0).toNat + 2 ^ n * (u.r 3).toNat : Int) = (signedOf n x * signedOf n y) % 2 ^ (2 * n) ∧
      u = { s with gpr := u.gpr, flags := u.flags, ip := s.ip + 2 } ∧ SameRegistersBut s u [0, 3] ∧
        (if f then u.flags = s.flags else ∃ c v, u.flags = setCV (setZN s.flags (u.r 0) n) c v))

/-- O16. div and idiv leave quotient and remainder, and raise DIV for a zero divisor (40_undefined_alu_muldiv.md R240,
40_undefined_alu_muldiv.md R242, 40_undefined_alu_muldiv.md R244). -/
def Obligations.Divide : Prop :=
  ∀ (z : Size) (w f : Bool) (s : State),
    let n := z.bits
    let d := (s.r 3).toNat % 2 ^ n
    let dividend := (s.r 0).toNat % 2 ^ n + (if w then 2 ^ n * ((s.r 1).toNat % 2 ^ n) else 0)
    (d = 0 → exec (.div z w f) s = .next (s.takeException .div) ∧ exec (.idiv z w f) s = .next (s.takeException .div)) ∧
    (d ≠ 0 →
    (∃ u q, exec (.div z w f) s = .next u ∧ dividend = q * d + (u.r 3).toNat ∧ (u.r 3).toNat < d ∧
      (u.r 0).toNat = q % 2 ^ n ∧
      u = { s with gpr := u.gpr, flags := u.flags, ip := s.ip + 2 } ∧ SameRegistersBut s u [0, 3] ∧
        (if f then u.flags = s.flags else ∃ c v, u.flags = setCV (setZN s.flags (u.r 0) n) c v)) ∧
    (∃ (u : State) (q r : Int), exec (.idiv z w f) s = .next u ∧
      signedOf (if w then 2 * n else n) dividend = q * signedOf n d + r ∧ |r| < |signedOf n d| ∧
      (r = 0 ∨ (0 < r ↔ 0 < signedOf (if w then 2 * n else n) dividend)) ∧
      ((u.r 0).toNat : Int) = q % 2 ^ n ∧ ((u.r 3).toNat : Int) = r % 2 ^ n ∧
      u = { s with gpr := u.gpr, flags := u.flags, ip := s.ip + 2 } ∧ SameRegistersBut s u [0, 3] ∧
        (if f then u.flags = s.flags else ∃ c v, u.flags = setCV (setZN s.flags (u.r 0) n) c v)))

/-- O17. mov stores its source and sets Z and N; lea stores the address of its source and accesses no memory
(41_mov_nop_stack.md R261 to R265). -/
def Obligations.Moves : Prop :=
  (∀ (a b : Operand) (s : State) (v : Word) (t : Target), s.MoveReady a b v t →
    let n := (s.place (s.nip2 a b) a).bits
    let w := truncBits n v
    s.checkTarget w t = .ok () →
    exec (.mov a b) s = .next { s.setTarget w t with flags := setZN s.flags w n, ip := s.nip2 a b }) ∧
  (∀ (r : BitVec 4) (a : Operand) (s : State) (v : Word), s.checkOperands [a] = .ok () →
    s.readPlace (s.nip1 a) (s.place (s.nip1 a) a) = .ok v →
    exec (.movTogpr r a) s =
      .next { s.setR r v with flags := setZN s.flags v (s.place (s.nip1 a) a).bits, ip := s.nip1 a }) ∧
  (∀ (r : BitVec 4) (a : Operand) (s : State) (t : Target), s.checkOperands [a] = .ok () →
    (s.place (s.nip1 a) a).isRegister 16 = false → (s.place (s.nip1 a) a).isRegister 17 = false →
    s.openTarget (s.place (s.nip1 a) a) = .ok t →
    let n := (s.place (s.nip1 a) a).bits
    let w := truncBits n (s.r r)
    s.checkTarget w t = .ok () →
    exec (.movFromgpr r a) s = .next { s.setTarget w t with flags := setZN s.flags w n, ip := s.nip1 a }) ∧
  (∀ (b : Operand) (s : State) (addr : Word) (z z' : Size) (r : BitVec 8), s.checkOperands [.reg z r, b] = .ok () →
    s.place (s.nip2 (.reg z r) b) b = .mem addr z' → r ≠ 16 → r ≠ 17 →
    s.writebackCheck r (truncBits z.bits addr) = .ok () →
    exec (.lea (.reg z r) b) s = .next { s.writeReg r (truncBits z.bits addr) with ip := s.nip2 (.reg z r) b }) ∧
  (∀ (r : BitVec 4) (a : Operand) (s : State) (addr : Word) (z : Size), s.checkOperands [a] = .ok () →
    s.place (s.nip1 a) a = .mem addr z →
    exec (.leaTogpr r a) s = .next { s.setR r addr with ip := s.nip1 a })

/-- O18. nop with any operands changes only ip (41_mov_nop_stack.md R269 to R273). -/
def Obligations.NoOperation : Prop :=
  ∀ (a b c : Operand) (s : State),
    exec .nop s = .next { s with ip := s.ip + 2 } ∧
    exec (.nop1 a) s = .next { s with ip := s.nip1 a } ∧
    exec (.nop2 a b) s = .next { s with ip := s.nip2 a b } ∧
    exec (.nop3 a b c) s = .next { s with ip := s.nip3 a b c }

/-- O19. push stores the operand, read with the old r7, in the 8 bytes below the old r7 (41_mov_nop_stack.md R275,
41_mov_nop_stack.md R276, 41_mov_nop_stack.md R278). -/
def Obligations.Push : Prop :=
  ∀ (s : State) (pas : List Nat), s.translateRange s.xm .write (s.sp - 8) 8 = .ok pas →
    (∀ (a : Operand) (v : Word), s.checkOperands [a] = .ok () → s.readPlace (s.nip1 a) (s.place (s.nip1 a) a) = .ok v →
      ∃ u, exec (.push a) s = .next u ∧ StoredAt s u pas (leBytes 8 v.toNat) ∧ u.sp = s.sp - 8 ∧ SameRegistersBut s u [7] ∧
      u.flags = s.flags ∧ u.mode = s.mode ∧ u.codeView = s.codeView ∧ u.ip = s.nip1 a ∧ StoreFrame s u) ∧
    (∀ r : BitVec 4, ∃ u, exec (.pushReg r) s = .next u ∧ StoredAt s u pas (leBytes 8 (s.r r).toNat) ∧ u.sp = s.sp - 8 ∧ SameRegistersBut s u [7] ∧
      u.flags = s.flags ∧ u.mode = s.mode ∧ u.codeView = s.codeView ∧ u.ip = s.ip + 2 ∧ StoreFrame s u)

/-- O20. pop moves the 8 bytes at r7 to its operand and adds 8 to r7 (41_mov_nop_stack.md R277, 41_mov_nop_stack.md
R279). -/
def Obligations.PopFromStack : Prop :=
  ∀ (s : State) (pas : List Nat), s.translateRange s.xm .read s.sp 8 = .ok pas →
    let v := s.loadWord pas
    let intoSp := if s.params.popIntoSpAdds then v + 8 else v
    (∀ (a : Operand) (t : Target), s.checkOperands [a] = .ok () → (s.place (s.nip1 a) a).bits = 64 →
      (s.place (s.nip1 a) a).isRegister 16 = false → s.openTarget (s.place (s.nip1 a) a) = .ok t →
      s.checkTarget v t = .ok () →
      exec (.pop a) s =
        .next { (s.setTarget v t).setR 7 (if (s.place (s.nip1 a) a).isRegister 7 then intoSp else s.sp + 8) with
                ip := s.nip1 a }) ∧
    (∀ r : BitVec 4,
      exec (.popReg r) s = .next { (s.setR r v).setR 7 (if r = 7 then intoSp else s.sp + 8) with ip := s.ip + 2 })

/-- O21. stogpr, stoar, pushgpr and pushar store the register image and change no other byte (42_bulk_registers.md
R290, 42_bulk_registers.md R291, 42_bulk_registers.md R292, 42_bulk_registers.md R295, 42_bulk_registers.md R297,
42_bulk_registers.md R298). -/
def Obligations.StoreRegisters : Prop :=
  ∀ (s : State),
    let programImage := fun nip : Word => wordsBytes (s.gpr.toList ++ [nip, s.flags, s.mode] ++ List.replicate 109 0)
    (∀ (a : Operand) (addr : Word) (z : Size) (pas : List Nat), s.checkOperands [a] = .ok () →
      s.place (s.nip1 a) a = .mem addr z →
      (s.translateRange s.xm .write addr 128 = .ok pas →
        ∃ u, exec (.stogpr a) s = .next u ∧ StoredAt s u pas (wordsBytes s.gpr.toList) ∧ u.gpr = s.gpr ∧
          u.ip = s.nip1 a ∧ u.flags = s.flags ∧ u.mode = s.mode ∧ u.codeView = s.codeView ∧ StoreFrame s u) ∧
      (s.translateRange s.xm .write addr 1024 = .ok pas →
        ∃ u, exec (.stoar a) s = .next u ∧ StoredAt s u pas (programImage (s.nip1 a)) ∧ u.gpr = s.gpr ∧
          u.ip = s.nip1 a ∧ u.flags = s.flags ∧ u.mode = s.mode ∧ u.codeView = s.codeView ∧ StoreFrame s u)) ∧
    (∀ pas, s.translateRange s.xm .write (s.sp - 128) 128 = .ok pas →
      ∃ u, exec .pushgpr s = .next u ∧ StoredAt s u pas (wordsBytes s.gpr.toList) ∧ u.sp = s.sp - 128 ∧
        SameRegistersBut s u [7] ∧ u.ip = s.ip + 2 ∧ u.flags = s.flags ∧ u.mode = s.mode ∧ u.codeView = s.codeView ∧ StoreFrame s u) ∧
    (∀ pas, s.translateRange s.xm .write (s.sp - 1024) 1024 = .ok pas →
      ∃ u, exec .pushar s = .next u ∧ StoredAt s u pas (programImage (s.ip + 2)) ∧ u.sp = s.sp - 1024 ∧
        SameRegistersBut s u [7] ∧ u.ip = s.ip + 2 ∧ u.flags = s.flags ∧ u.mode = s.mode ∧ u.codeView = s.codeView ∧ StoreFrame s u)

/-- O22. rstogpr and popgpr load the general registers, rstoar and popar the program registers other than ip
(42_bulk_registers.md R293 to R295, 42_bulk_registers.md R299, 42_bulk_registers.md R300, 10_state.md R42). -/
def Obligations.RestoreRegisters : Prop :=
  (∀ (s : State) (pas : List Nat),
    (∀ (a : Operand) (addr : Word) (z : Size), s.checkOperands [a] = .ok () → s.place (s.nip1 a) a = .mem addr z →
      s.translateRange s.xm .read addr 128 = .ok pas →
      ∃ u, exec (.rstogpr a) s = .next u ∧ (∀ j, u.r j = s.loadSlot pas j.toNat) ∧
        u = { s with gpr := u.gpr, ip := s.nip1 a }) ∧
    (s.translateRange s.xm .read s.sp 128 = .ok pas →
      ∃ u, exec .popgpr s = .next u ∧ (∀ j, u.r j = s.loadSlot pas j.toNat) ∧
        u = { s with gpr := u.gpr, ip := s.ip + 2 })) ∧
  (∀ (s : State) (pas : List Nat), (∀ i, 19 ≤ i → i < 128 → s.loadSlot pas i = 0) →
    (∀ (a : Operand) (addr : Word) (z : Size), s.checkOperands [a] = .ok () → s.place (s.nip1 a) a = .mem addr z →
      s.translateRange s.xm .read addr 1024 = .ok pas →
      ∃ u, exec (.rstoar a) s = .next u ∧ u = { s with gpr := u.gpr, flags := u.flags, mode := u.mode, ip := s.nip1 a } ∧
      (∀ j, u.r j = s.loadSlot pas j.toNat) ∧
      (∀ i, i < 64 → u.flags.getLsbD i =
        if i < 5 ∧ ¬(s.xm = true ∧ s.flprotect.getLsbD i = true) then (s.loadSlot pas 17).getLsbD i
        else s.flags.getLsbD i) ∧
      (s.xm = false → s.loadSlot pas 18 = 0 ∨ s.loadSlot pas 18 = 3#64 <<< 32 → u.mode = s.loadSlot pas 18) ∧
      (s.xm = true → u.mode >>> 32 = s.mode >>> 32)) ∧
    (s.translateRange s.xm .read s.sp 1024 = .ok pas →
      ∃ u, exec .popar s = .next u ∧ u = { s with gpr := u.gpr, flags := u.flags, mode := u.mode, ip := s.ip + 2 } ∧
      (∀ j, u.r j = s.loadSlot pas j.toNat) ∧
      (∀ i, i < 64 → u.flags.getLsbD i =
        if i < 5 ∧ ¬(s.xm = true ∧ s.flprotect.getLsbD i = true) then (s.loadSlot pas 17).getLsbD i
        else s.flags.getLsbD i) ∧
      (s.xm = false → s.loadSlot pas 18 = 0 ∨ s.loadSlot pas 18 = 3#64 <<< 32 → u.mode = s.loadSlot pas 18) ∧
      (s.xm = true → u.mode >>> 32 = s.mode >>> 32)))

/-- O23. rstoar, popar and rstregf raise PROT and load no register when a reserved slot is not 0 (42_bulk_registers.md
R296, 48_supervisor.md R466). -/
def Obligations.ReservedSlotsRefused : Prop :=
  ∀ (s : State) (pas : List Nat) (k : Nat), s.loadSlot pas k ≠ 0 →
    (19 ≤ k → k < 128 →
      (∀ (a : Operand) (addr : Word) (z : Size), s.checkOperands [a] = .ok () → s.place (s.nip1 a) a = .mem addr z →
        s.translateRange s.xm .read addr 1024 = .ok pas → exec (.rstoar a) s = .next (s.takeException .prot)) ∧
      (s.translateRange s.xm .read s.sp 1024 = .ok pas → exec .popar s = .next (s.takeException .prot))) ∧
    ((19 ≤ k ∧ k < 128) ∨ k = 146 ∨ k = 147 ∨ (155 ≤ k ∧ k < 256) → s.xm = false →
      ∀ (a : Operand) (addr : Word) (z : Size), s.checkOperands [a] = .ok () → s.place (s.nip1 a) a = .mem addr z →
        s.translateRange s.xm .read addr 2048 = .ok pas → exec (.rstregf a) s = .next (s.takeException .prot))

/-- O24. movsx stores the source as a signed value and bswap its bytes reversed (43_convert_shift_unary.md R310 to
R312). -/
def Obligations.ConvertingMoves : Prop :=
  ∀ (f : Bool) (a b : Operand) (s : State) (v : Word) (t : Target), s.MoveReady a b v t →
    let nd := (s.place (s.nip2 a b) a).bits
    let ns := (s.place (s.nip2 a b) b).bits
    let done := fun w : Word =>
      { s.setTarget w t with flags := if f then s.flags else setZN s.flags w nd, ip := s.nip2 a b }
    (∃ w : Word, w.toNat < 2 ^ nd ∧
      (if nd ≤ ns then w = truncBits nd v else signedOf nd w.toNat = signedOf ns v.toNat) ∧
      (s.checkTarget w t = .ok () → exec (.movsx f a b) s = .next (done w))) ∧
    (nd = ns → ∃ w : Word, w.toNat < 2 ^ nd ∧ leBytes (nd / 8) w.toNat = (leBytes (nd / 8) v.toNat).reverse ∧
      (s.checkTarget w t = .ok () → exec (.bswap f a b) s = .next (done w)))

/-- O25. The shifts by at most the width, and the rotates by any quantity, store the result the spec gives
(43_convert_shift_unary.md R313 to R320, 43_convert_shift_unary.md R322). -/
def Obligations.ShiftsAndRotates : Prop :=
  ∀ (l f : Bool) (o p : Operand) (s : State) (x y : Word) (t : Target), s.AluReady l o p x y t →
    let n := (s.place (s.nip2 o p) o).bits
    let a := x.toNat
    let q := y.toNat
    let done := fun (v : Word) (c : Bool) =>
      { s.setTarget v t with
        flags := if f then s.flags else setZN (setCV s.flags c (decide (n < q))) v n, ip := s.nip2 o p }
    let k := q % n
    let lsh : Word := BitVec.ofNat 64 (a * 2 ^ q % 2 ^ n)
    let rsh : Word := BitVec.ofNat 64 (a / 2 ^ q)
    let arsh : Word := BitVec.ofNat 64 ((signedOf n a / 2 ^ q) % 2 ^ n).toNat
    let lshc : Word := BitVec.ofNat 64 (a * 2 ^ q % 2 ^ n ||| if s.flags.getLsbD 0 then 2 ^ q - 1 else 0)
    let rshc : Word := BitVec.ofNat 64 (a / 2 ^ q ||| if s.flags.getLsbD 0 then (2 ^ q - 1) * 2 ^ (n - q) else 0)
    let lrot : Word := BitVec.ofNat 64 (a * 2 ^ k % 2 ^ n ||| a / 2 ^ (n - k))
    let rrot : Word := BitVec.ofNat 64 (a / 2 ^ k ||| a * 2 ^ (n - k) % 2 ^ n)
    let left := decide (1 ≤ q) && a.testBit (n - q)
    let right := decide (1 ≤ q) && a.testBit (q - 1)
    let leftRot := decide (1 ≤ k) && a.testBit (n - k)
    let rightRot := decide (1 ≤ k) && a.testBit (k - 1)
    (q ≤ n →
      (s.checkTarget lsh t = .ok () → exec (.lsh l f o p) s = .next (done lsh left)) ∧
      (s.checkTarget rsh t = .ok () → exec (.rsh l f o p) s = .next (done rsh right)) ∧
      (s.checkTarget arsh t = .ok () → exec (.arsh l f o p) s = .next (done arsh right)) ∧
      (s.checkTarget lshc t = .ok () → exec (.lshc l f o p) s = .next (done lshc left)) ∧
      (s.checkTarget rshc t = .ok () → exec (.rshc l f o p) s = .next (done rshc right))) ∧
    (s.checkTarget lrot t = .ok () → exec (.lrot l f o p) s = .next (done lrot leftRot)) ∧
    (s.checkTarget rrot t = .ok () → exec (.rrot l f o p) s = .next (done rrot rightRot))

/-- O26. The gpr forms of the shifts and rotates do the same to a 64-bit register (43_convert_shift_unary.md R323 to
R330, 43_convert_shift_unary.md R322). -/
def Obligations.GprShiftsAndRotates : Prop :=
  ∀ (r : BitVec 4) (o : Operand) (s : State) (y : Word), s.checkOperands [o] = .ok () →
    s.readPlace (s.nip1 o) (s.place (s.nip1 o) o) = .ok y →
    let n := 64
    let a := (s.r r).toNat
    let q := y.toNat
    let done := fun (v : Word) (c : Bool) =>
      { s.setR r v with flags := setZN (setCV s.flags c (decide (n < q))) v n, ip := s.nip1 o }
    let k := q % n
    let lsh : Word := BitVec.ofNat 64 (a * 2 ^ q % 2 ^ n)
    let rsh : Word := BitVec.ofNat 64 (a / 2 ^ q)
    let arsh : Word := BitVec.ofNat 64 ((signedOf n a / 2 ^ q) % 2 ^ n).toNat
    let lshc : Word := BitVec.ofNat 64 (a * 2 ^ q % 2 ^ n ||| if s.flags.getLsbD 0 then 2 ^ q - 1 else 0)
    let rshc : Word := BitVec.ofNat 64 (a / 2 ^ q ||| if s.flags.getLsbD 0 then (2 ^ q - 1) * 2 ^ (n - q) else 0)
    let lrot : Word := BitVec.ofNat 64 (a * 2 ^ k % 2 ^ n ||| a / 2 ^ (n - k))
    let rrot : Word := BitVec.ofNat 64 (a / 2 ^ k ||| a * 2 ^ (n - k) % 2 ^ n)
    let left := decide (1 ≤ q) && a.testBit (n - q)
    let right := decide (1 ≤ q) && a.testBit (q - 1)
    let leftRot := decide (1 ≤ k) && a.testBit (n - k)
    let rightRot := decide (1 ≤ k) && a.testBit (k - 1)
    (q ≤ n →
      exec (.lshGpr r o) s = .next (done lsh left) ∧ exec (.rshGpr r o) s = .next (done rsh right) ∧
      exec (.arshGpr r o) s = .next (done arsh right) ∧ exec (.lshcGpr r o) s = .next (done lshc left) ∧
      exec (.rshcGpr r o) s = .next (done rshc right)) ∧
    exec (.lrotGpr r o) s = .next (done lrot leftRot) ∧ exec (.rrotGpr r o) s = .next (done rrot rightRot)

/-- O27. A shift by more than the width completes with V set and an open result that Z and N describe
(43_convert_shift_unary.md R322). -/
def Obligations.ShiftsPastTheWidth : Prop :=
  (∀ (l f : Bool) (o p : Operand) (s : State) (x y : Word) (t : Target), s.AluReady l o p x y t →
    (s.place (s.nip2 o p) o).bits < y.toNat →
    let n := (s.place (s.nip2 o p) o).bits
    ∀ i ∈ [Instr.lsh l f o p, .rsh l f o p, .arsh l f o p, .lshc l f o p, .rshc l f o p],
      ∃ (v : Word) (c : Bool), v.toNat < 2 ^ n ∧
        (s.checkTarget v t = .ok () → exec i s = .next { s.setTarget v t with
          flags := if f then s.flags else setZN (setCV s.flags c true) v n, ip := s.nip2 o p }) ∧
        ∀ e, s.checkTarget v t = raise e → exec i s = .next (s.takeException e)) ∧
  (∀ (r : BitVec 4) (o : Operand) (s : State) (y : Word), s.checkOperands [o] = .ok () →
    s.readPlace (s.nip1 o) (s.place (s.nip1 o) o) = .ok y → 64 < y.toNat →
    ∀ i ∈ [Instr.lshGpr r o, .rshGpr r o, .arshGpr r o, .lshcGpr r o, .rshcGpr r o],
      ∃ (v : Word) (c : Bool),
        exec i s = .next { s.setR r v with flags := setZN (setCV s.flags c true) v 64, ip := s.nip1 o })

/-- O28. bnot and neg store the complement and the negation and set Z, N and P (43_convert_shift_unary.md R331 to
R336, 10_state.md R35). -/
def Obligations.UnaryOperations : Prop :=
  let flagsOf := fun (fl v : Word) (n : Nat) =>
    putBit (setZN fl v n) bitP (decide (((List.range n).filter fun i => v.getLsbD i).length % 2 = 1))
  (∀ (l f : Bool) (o : Operand) (s : State) (x : Word) (t : Target), s.TargetReady o x t →
    let n := (s.place (s.nip1 o) o).bits
    let complement : Word := BitVec.ofNat 64 (x.toNat ^^^ (2 ^ n - 1))
    let negation : Word := BitVec.ofNat 64 ((2 ^ n - x.toNat) % 2 ^ n)
    let done := fun v : Word =>
      { s.setTarget v t with flags := if f then s.flags else flagsOf s.flags v n, ip := s.nip1 o }
    (s.checkTarget complement t = .ok () → exec (.bnot l f o) s = .next (done complement)) ∧
    (s.checkTarget negation t = .ok () → exec (.neg l f o) s = .next (done negation))) ∧
  (∀ (r : BitVec 4) (s : State),
    let complement : Word := BitVec.ofNat 64 ((s.r r).toNat ^^^ (2 ^ 64 - 1))
    let negation : Word := BitVec.ofNat 64 ((2 ^ 64 - (s.r r).toNat) % 2 ^ 64)
    let done := fun v : Word => { s.setR r v with flags := flagsOf s.flags v 64, ip := s.ip + 2 }
    exec (.bnotGpr r) s = .next (done complement) ∧ exec (.negGpr r) s = .next (done negation))

/-- O29. cmov and cmovt store operand 2 in operand 1 when the condition holds and otherwise change only ip
(44_cmov_compare.md R350 to R352). -/
def Obligations.ConditionalMoves : Prop :=
  ∀ (cc : Cond) (a b : Operand) (s : State) (nip v : Word) (t : Target), (s.place nip a).isImm = false →
    ¬((s.place nip a).isMem = true ∧ (s.place nip b).isMem = true) →
    (s.place nip a).isRegister 16 = false → (s.place nip a).isRegister 18 = false →
    s.readPlace nip (s.place nip b) = .ok v → s.openTarget (s.place nip a) = .ok t →
    let w := truncBits (s.place nip a).bits v
    let moved := { s.setTarget w t with ip := nip }
    let kept := { s with ip := nip }
    (nip = s.nip2 a b → s.checkOperands [a, b] = .ok () →
      (condHolds cc s.flags = true → s.checkTarget w t = .ok () → exec (.cmov cc a b) s = .next moved) ∧
      (condHolds cc s.flags = false → exec (.cmov cc a b) s = .next kept)) ∧
    (∀ (z : Size) (r : BitVec 8) (f : Word), nip = s.nip3 a b (.reg z r) → s.checkOperands [a, b, .reg z r] = .ok () →
      s.readRegister nip r z = .ok f →
      (condHolds cc f = true → s.checkTarget w t = .ok () → exec (.cmovt cc a b (.reg z r)) s = .next moved) ∧
      (condHolds cc f = false → exec (.cmovt cc a b (.reg z r)) s = .next kept))

/-- O30. test, cmp of a gpr and test of a gpr set the flags and change nothing else but ip (44_cmov_compare.md R355,
44_cmov_compare.md R357 to R359). -/
def Obligations.CompareAndTest : Prop :=
  (∀ (a b : Operand) (s : State) (x y : Word), s.checkOperands [a, b] = .ok () →
    (s.place (s.nip2 a b) a).isImm = false →
    ¬((s.place (s.nip2 a b) a).isMem = true ∧ (s.place (s.nip2 a b) b).isMem = true) →
    s.readPlace (s.nip2 a b) (s.place (s.nip2 a b) a) = .ok x →
    s.readPlace (s.nip2 a b) (s.place (s.nip2 a b) b) = .ok y →
    let n := max (s.place (s.nip2 a b) a).bits (s.place (s.nip2 a b) b).bits
    exec (.test a b) s = .next { s with flags := setZN s.flags (x &&& y) n, ip := s.nip2 a b }) ∧
  (∀ (r : BitVec 4) (a : Operand) (s : State) (y : Word), s.checkOperands [a] = .ok () →
    s.readPlace (s.nip1 a) (s.place (s.nip1 a) a) = .ok y →
    exec (.cmpGpr r a) s = .next { s with flags := subFlags s.flags (s.r r) y 64, ip := s.nip1 a } ∧
    exec (.testGpr r a) s = .next { s with flags := setZN s.flags (s.r r &&& y) 64, ip := s.nip1 a })

/-- O31. xchg writes each operand with the value the other held (45_atomic_fence.md R370, 45_atomic_fence.md R371). -/
def Obligations.Exchange : Prop :=
  ∀ (a b : Operand) (s : State) (t u : Target) (x y : Word), s.checkOperands [a, b] = .ok () →
    s.AtomicReady (s.nip2 a b) a b t u →
    s.readTarget (s.nip2 a b) t = .ok x → s.readTarget (s.nip2 a b) u = .ok y →
    let first := truncBits (s.place (s.nip2 a b) a).bits y
    let second := truncBits (s.place (s.nip2 a b) b).bits x
    s.checkTarget first t = .ok () → s.checkTarget second u = .ok () →
    exec (.xchg a b) s = .next { (s.setTarget first t).setTarget second u with ip := s.nip2 a b }

/-- O32. cmpxchg stores operand 3 when operand 1 equals operand 2, else the observed value goes to operand 2
(45_atomic_fence.md R370, 45_atomic_fence.md R372, 45_atomic_fence.md R373). -/
def Obligations.CompareExchange : Prop :=
  ∀ (a b c : Operand) (s : State) (t u : Target) (old expected new : Word), s.checkOperands [a, b, c] = .ok () →
    s.AtomicReady (s.nip3 a b c) a b t u →
    s.readTarget (s.nip3 a b c) t = .ok old → s.readTarget (s.nip3 a b c) u = .ok expected →
    s.readPlace (s.nip3 a b c) (s.place (s.nip3 a b c) c) = .ok new →
    let stored := truncBits (s.place (s.nip3 a b c) a).bits new
    let observed := truncBits (s.place (s.nip3 a b c) b).bits old
    let success := { s.setTarget stored t with flags := putBit s.flags bitZ true, ip := s.nip3 a b c }
    let failure :=
      { (s.setTarget old t).setTarget observed u with flags := putBit s.flags bitZ false, ip := s.nip3 a b c }
    s.checkTarget stored t = .ok () → s.checkTarget old t = .ok () → s.checkTarget observed u = .ok () →
    (old = expected → exec (.cmpxchg a b c) s = .next success ∧
      (exec (.wcmpxchg a b c) s = .next success ∨ exec (.wcmpxchg a b c) s = .next failure)) ∧
    (old ≠ expected → exec (.cmpxchg a b c) s = .next failure ∧ exec (.wcmpxchg a b c) s = .next failure)

/-- O33. fence, flall and pcfl record their synchronization and flush what their rules name (45_atomic_fence.md R380,
48_supervisor.md R456, 48_supervisor.md R457, 70_reset_and_hazards.md R550). -/
def Obligations.FenceAndFlushes : Prop :=
  ∀ s : State,
    let visible := s.recent.map fun r => { r with visibleToAll := true }
    exec .fence s = .next { s with syncOrder := .fence :: s.syncOrder, recent := visible, ip := s.ip + 2 } ∧
    (s.xm = false →
      exec .flall s =
        .next { s with syncOrder := .globalFlush :: s.syncOrder, ptHistory := [], recent := visible, ip := s.ip + 2 } ∧
      (s.page.toNat % 4096 = 0 →
        exec .pcfl s = .next { s with syncOrder := .pageFlush :: s.syncOrder, ptHistory := [], ip := s.ip + 2 }) ∧
      (s.page.toNat % 4096 ≠ 0 →
        ∃ f, exec .pcfl s =
          .next ({ s with syncOrder := .pageFlush :: s.syncOrder, ptHistory := [] }.takeException (.pf f))))

/-- O34. A conditional branch goes to its destination when its condition holds and otherwise to the next instruction
(46_branches.md R391, 46_branches.md R393, 46_branches.md R395). -/
def Obligations.ConditionalBranches : Prop :=
  ∀ (i : Instr) (cc : Cond) (rel : Bool) (d : SizedImm) (s : State), conditionalBranch i = some (cc, rel, d) →
    (condHolds cc s.flags = false → exec i s = .next { s with ip := s.nipDest d }) ∧
    (condHolds cc s.flags = true → s.branchAllowed s.xm (s.destination rel d) →
      exec i s = .next { s with ip := s.destination rel d, recent := [], codeView := none })

/-- O35. jmp, ijmp, fret, ifjmp, fcall, ifcall and ret go to their destination (46_branches.md R401, 46_branches.md
R403 to R407, 46_branches.md R409). -/
def Obligations.Jumps : Prop :=
  ∀ s : State,
    let arrive := fun (i : Instr) (d : Word) => s.branchAllowed s.xm d →
      exec i s = .next { s with ip := d, recent := [], codeView := none }
    let called := fun (i : Instr) (d nip : Word) => s.branchAllowed s.xm d →
      exec i s = .next { s.setR 14 nip with ip := d, recent := [], codeView := none }
    (∀ d, arrive (.jmpAbs d) (s.destination false d) ∧ arrive (.jmpRel d) (s.destination true d)) ∧
    (∀ r, arrive (.ijmpAbs r) (s.registerDest false r) ∧ arrive (.ijmpRel r) (s.registerDest true r)) ∧
    arrive .fretAbs (s.registerDest false 14) ∧ arrive .fretRel (s.registerDest true 14) ∧
    arrive .ifjmpAbs (s.registerDest false 15) ∧ arrive .ifjmpRel (s.registerDest true 15) ∧
    (∀ d, called (.fcallAbs d) (s.destination false d) (s.nipDest d) ∧
      called (.fcallRel d) (s.destination true d) (s.nipDest d)) ∧
    called .ifcallAbs (s.registerDest false 15) (s.ip + 2) ∧ called .ifcallRel (s.registerDest true 15) (s.ip + 2) ∧
    (∀ pas, s.translateRange s.xm .read s.sp 8 = .ok pas → s.branchAllowed s.xm (s.loadWord pas) →
      exec .ret s = .next { s.setR 7 (s.sp + 8) with ip := s.loadWord pas, recent := [], codeView := none })

/-- O36. call and icall push the address of the next instruction and go to their destination (46_branches.md R402,
46_branches.md R408). -/
def Obligations.Calls : Prop :=
  ∀ (s : State) (pas : List Nat), s.translateRange s.xm .write (s.sp - 8) 8 = .ok pas →
    let called := fun (i : Instr) (d nip : Word) => s.branchAllowed s.xm d →
      ∃ u, exec i s = .next u ∧ StoredAt s u pas (leBytes 8 nip.toNat) ∧ u.sp = s.sp - 8 ∧ SameRegistersBut s u [7] ∧
        u.flags = s.flags ∧ u.mode = s.mode ∧ Arrived s u d [pas] ∧ StoreFrame s u
    (∀ d, called (.callAbs d) (s.destination false d) (s.nipDest d) ∧
      called (.callRel d) (s.destination true d) (s.nipDest d)) ∧
    (∀ r, called (.icallAbs r) (s.registerDest false r) (s.ip + 2) ∧
      called (.icallRel r) (s.registerDest true r) (s.ip + 2))

/-- O37. A taken branch to a bad destination raises XA or PF and has pushed or popped nothing (46_branches.md R390,
46_branches.md R394, 46_branches.md R396). -/
def Obligations.BranchFaults : Prop :=
  ∀ s : State,
    let faults := fun (i : Instr) (d : Word) =>
      (d.getLsbD 0 = true → exec i s = .next (s.takeException (.xa d))) ∧
      (∀ f, d.getLsbD 0 = false → s.translateRange s.xm .fetch d 1 = .error f →
        exec i s = .next (s.takeException (.pf f)))
    (∀ i cc rel d, conditionalBranch i = some (cc, rel, d) → condHolds cc s.flags = true →
      faults i (s.destination rel d)) ∧
    (∀ d, faults (.jmpAbs d) (s.destination false d) ∧ faults (.jmpRel d) (s.destination true d) ∧
      faults (.fcallAbs d) (s.destination false d) ∧ faults (.fcallRel d) (s.destination true d)) ∧
    (∀ r, faults (.ijmpAbs r) (s.registerDest false r) ∧ faults (.ijmpRel r) (s.registerDest true r)) ∧
    faults .fretAbs (s.registerDest false 14) ∧ faults .fretRel (s.registerDest true 14) ∧
    faults .ifjmpAbs (s.registerDest false 15) ∧ faults .ifjmpRel (s.registerDest true 15) ∧
    faults .ifcallAbs (s.registerDest false 15) ∧ faults .ifcallRel (s.registerDest true 15) ∧
    (∀ pas, s.translateRange s.xm .write (s.sp - 8) 8 = .ok pas →
      (∀ d, faults (.callAbs d) (s.destination false d) ∧ faults (.callRel d) (s.destination true d)) ∧
      (∀ r, faults (.icallAbs r) (s.registerDest false r) ∧ faults (.icallRel r) (s.registerDest true r))) ∧
    (∀ pas, s.translateRange s.xm .read s.sp 8 = .ok pas → faults .ret (s.loadWord pas))

/-- O38. jsm, callsm and retrsm load mode and go to their destination (47_forcing_transfers.md R421 to R424). -/
def Obligations.ModeTransfers : Prop :=
  ∀ (s : State) (m : Word), m = 0 ∨ m = 3#64 <<< 32 → (s.xm = true → m >>> 32 = s.mode >>> 32) →
    let jumped := fun (i : Instr) (d : Word) => s.branchAllowed (m.getLsbD 32) d →
      exec i s = .next { s with mode := m, ip := d, recent := [], codeView := none }
    let called := fun (i : Instr) (d : Word) (size : Nat) (bs : List Byte) (stores : List Nat → List (List Nat)) => ∀ pas,
      s.translateRange s.xm .write (s.sp - BitVec.ofNat 64 size) size = .ok pas →
      s.branchAllowed (m.getLsbD 32) d →
      ∃ u, exec i s = .next u ∧ StoredAt s u pas bs ∧ u.sp = s.sp - BitVec.ofNat 64 size ∧ SameRegistersBut s u [7] ∧
        u.flags = s.flags ∧ u.mode = m ∧ Arrived s u d (stores pas) ∧ StoreFrame s u
    (m = s.r 0 → ∀ d : SizedImm,
      let return_ := leBytes 8 (s.nipDest d).toNat
      let both := return_ ++ leBytes 8 s.mode.toNat
      jumped (.jsmAbs d) (s.destination false d) ∧ jumped (.jsmRel d) (s.destination true d) ∧
      called (.callsmAbs false d) (s.destination false d) 8 return_ (fun pas => [pas]) ∧
      called (.callsmRel false d) (s.destination true d) 8 return_ (fun pas => [pas]) ∧
      called (.callsmAbs true d) (s.destination false d) 16 both (fun pas => [pas.take 8, pas.drop 8]) ∧
      called (.callsmRel true d) (s.destination true d) 16 both (fun pas => [pas.take 8, pas.drop 8])) ∧
    (∀ pas, s.translateRange s.xm .read s.sp 16 = .ok pas → m = s.loadSlot pas 1 →
      s.branchAllowed (m.getLsbD 32) (s.loadSlot pas 0) →
      exec .retrsm s =
        .next { s.setR 7 (s.sp + 16) with mode := m, ip := s.loadSlot pas 0, recent := [], codeView := none })

/-- O39. jsm, callsm and retrsm raise UND or PROT for a mode value they may not store (47_forcing_transfers.md R424).
-/
def Obligations.ModeChecks : Prop :=
  ∀ (s : State) (m : Word) (i : Instr),
    ((∃ d v, i = .jsmAbs d ∨ i = .jsmRel d ∨ i = .callsmAbs v d ∨ i = .callsmRel v d) ∧ m = s.r 0 ∨
      i = .retrsm ∧ ∃ pas, s.translateRange s.xm .read s.sp 16 = .ok pas ∧ m = s.loadSlot pas 1) →
    let undefinedBit := ∃ k, k < 64 ∧ k ≠ 32 ∧ k ≠ 33 ∧ m.getLsbD k = true
    (undefinedBit → exec i s = .next (s.takeException .und)) ∧
    (¬undefinedBit → s.xm = false → m.getLsbD 32 ≠ m.getLsbD 33 → exec i s = .next (s.takeException .prot)) ∧
    (¬undefinedBit → s.xm = true → m >>> 32 ≠ s.mode >>> 32 → exec i s = .next (s.takeException .prot))

/-- O40. scall enters the supervisor at scdp, and raises PROT in supervisor mode or where scdp is 0
(47_forcing_transfers.md R430 to R432). -/
def Obligations.SupervisorCall : Prop :=
  (∀ s : State, s.xm = false ∨ s.scdp = 0 → exec .scall s = .next (s.takeException .prot)) ∧
  (∀ s : State, s.xm = true → s.scdp ≠ 0 → s.branchAllowed false s.scdp →
    let stack := if s.scsp = 0 then s.sp else s.scsp
    let clear := s.mode &&& ~~~(3#64 <<< 32)
    (s.sccr.getLsbD 1 = true → ∃ u, exec .scall s = .next u ∧ u.r 12 = s.sp ∧ u.sp = stack ∧ u.r 13 = s.mode ∧
      u.r 14 = s.ip + 2 ∧ SameRegistersBut s u [7, 12, 13, 14] ∧
      u = { s with gpr := u.gpr, mode := clear, ip := s.scdp, recent := [], codeView := none }) ∧
    (s.sccr.getLsbD 1 = false → ∀ pas, s.translateRange false .write (stack - 32) 32 = .ok pas →
      ∃ u, exec .scall s = .next u ∧ StoredAt s u pas (wordsBytes [s.ip + 2, s.mode, s.flags, s.sp]) ∧
        u.sp = stack - 32 ∧ SameRegistersBut s u [7] ∧ u.flags = s.flags ∧ u.mode = clear ∧ Arrived s u s.scdp [pas] ∧
        StoreFrame s u))

/-- O41. int delivers number 16 + i with the next address saved, does nothing while disabled, and checks bounds and PX
(47_forcing_transfers.md R435, 60_exceptions.md R502). -/
def Obligations.SoftwareInterrupt : Prop :=
  ∀ (s : State) (i : BitVec 4),
    (s.ie = false → exec (.int i) s = .next { s with ip := s.ip + 2, recent := [], codeView := none }) ∧
    (s.ie = true → s.tableEntry (16 + i.toNat) = .error .outOfBounds →
      exec (.int i) s = .next (s.takeException .prot)) ∧
    (∀ e, s.ie = true → s.tableEntry (16 + i.toNat) = .ok e →
      (s.xm = true ∧ e.px = false → exec (.int i) s = .next (s.takeException .prot)) ∧
      (s.xm = false ∨ e.px = true → exec (.int i) s = .next (s.deliver (16 + i.toNat) (s.ip + 2))))

/-- O42. A delivery pushes the frame and goes to the handler; one that fails becomes PROT or ABRT, is dropped, or
resets the CPU (60_exceptions.md R501 to R505, 60_exceptions.md R507, 60_exceptions.md R515, 70_reset_and_hazards.md
R542). -/
def Obligations.DeliveryCompletes : Prop :=
  ∀ s : State,
    let misaligned := s.itabp.toNat % 32 ≠ 0
    (∀ n sip e pas, s.canEnter n e pas → Delivered s (s.deliver n sip) e pas [sip, s.mode, s.flags, s.sp]) ∧
    (∀ n sip, misaligned → s.deliver n sip = s.cpuReset) ∧
    (∀ n sip, s.tableEntry n = .error .outOfBounds →
      s.deliver n sip = if n ≤ 15 then s.deliverAbort else { s with fcode := 0 }.deliver 2 sip) ∧
    (∀ n sip, s.cannotService n →
      s.deliver n sip = if n = 16 then { s with ip := sip, recent := [], codeView := none } else s.deliverAbort) ∧
    (∀ e pas, s.canEnter 0 e pas →
      ∃ frame : List Word, frame.length = 4 ∧ Delivered { s with fcode := 0 } s.deliverAbort e pas frame) ∧
    (misaligned ∨ s.tableEntry 0 = .error .outOfBounds ∨ s.cannotService 0 → s.deliverAbort = s.cpuReset) ∧
    (let r := s.cpuReset
     r = { s with
           gpr := r.gpr, ip := 0xff00, flags := 0, mode := 0, cr0 := 0, page := r.page, flprotect := 0, scdp := r.scdp,
           scsp := r.scsp, sccr := r.sccr, itabp := r.itabp, ciread := 0, fcode := r.fcode, pfcharp := r.pfcharp,
           msr := r.msr, ptHistory := [], codeView := none, halted := false, eventsHeld := false })

/-- O43. Taking UND, PROT, PF, XA or DIV writes fcode and delivers its number with the faulting address saved
(60_exceptions.md R480, 60_exceptions.md R487, 60_exceptions.md R505, 20_memory.md R133). -/
def Obligations.ExceptionEntry : Prop :=
  ∀ s : State,
    (∃ v, s.takeException .und = { s with fcode := v }.deliver 1 s.ip) ∧
    s.takeException .prot = { s with fcode := 0 }.deliver 2 s.ip ∧
    (∀ f, s.pfcharp = 0 → s.takeException (.pf f) = { s with fcode := f.addr }.deliver 3 s.ip) ∧
    (∀ a, s.takeException (.xa a) = { s with fcode := a }.deliver 4 s.ip) ∧
    (∃ v, s.takeException .div = { s with fcode := v }.deliver 6 s.ip)

/-- O44. A page fault with pfcharp set stores the 16-byte fault record before it is delivered, or becomes ABRT
(20_memory.md R132, 20_memory.md R133). -/
def Obligations.PageFaultRecord : Prop :=
  ∀ (s : State) (f : PageFault), s.pfcharp ≠ 0 →
    let range := { s with fcode := f.addr }.translateRange false .write s.pfcharp 16
    (∀ pas, s.pfcharp.toNat % 16 = 0 → range = .ok pas →
      ∃ u, s.takeException (.pf f) = u.deliver 3 s.ip ∧ u.fcode = f.addr ∧
        StoredAt s u pas (leBytes 8 f.pref.toNat ++ [f.plevel, f.kind] ++ leBytes 2 f.status.toNat ++ [0, 0, 0, 0]) ∧
        u = { s with fcode := f.addr, mem := u.mem, recent := u.recent, ptHistory := u.ptHistory }) ∧
    (s.pfcharp.toNat % 16 ≠ 0 ∨ (∃ g, range = .error g) →
      s.takeException (.pf f) = { s with fcode := f.addr }.deliverAbort)

/-- O45. reti, and scret without the fast form, restore ip, mode, flags and r7 from the frame (47_forcing_transfers.md
R440, 47_forcing_transfers.md R441, 60_exceptions.md R506). -/
def Obligations.ExceptionReturn : Prop :=
  ∀ s : State, s.xm = false →
    let loaded := fun m u : Word => m = 0 ∨ m = 3#64 <<< 32 → u = m
    (∀ pas, s.translateRange s.xm .read s.sp 32 = .ok pas →
      let m := s.loadSlot pas 1
      s.branchAllowed (m.getLsbD 32) (s.loadSlot pas 0) →
      ∃ u, exec .reti s = .next u ∧ (s.sccr.getLsbD 1 = false → exec .scret s = .next u) ∧ loaded m u.mode ∧
        u = { s.setR 7 (s.loadSlot pas 3) with
              ip := s.loadSlot pas 0, mode := u.mode, flags := s.loadSlot pas 2 &&& 0x1F, recent := [],
              codeView := none }) ∧
    (s.sccr.getLsbD 1 = true → s.branchAllowed ((s.r 13).getLsbD 32) (s.r 14) →
      ∃ u, exec .scret s = .next u ∧ loaded (s.r 13) u.mode ∧
        u = { s.setR 7 (s.r 12) with ip := s.r 14, mode := u.mode, recent := [], codeView := none })

/-- O46. Supervisor instructions raise PROT in program mode; machine-specific opcodes the machine lacks raise UND in
either mode (48_supervisor.md R450, 48_supervisor.md R451, 60_exceptions.md R521, 30_encoding.md R203). -/
def Obligations.SupervisorOpcodes : Prop :=
  (∀ (i : Instr) (s : State), privileged i = true → s.xm = true → exec i s = .next (s.takeException .prot)) ∧
  (∀ (i : Instr) (op : BitVec 12) (s : State), machineOpcode i = some op →
    (op ∉ s.params.machineInsn → exec i s = .next (s.takeException .und)) ∧
    (op ∈ s.params.machineInsn → s.xm = true → exec i s = .next (s.takeException .prot)) ∧
    (op ∈ s.params.machineInsn → s.xm = false → exec i s = .refused (.machineSpecificInstruction op.toNat)))

/-- O47. halt stops the CPU after itself, and a halted CPU with nothing to take stays as it is (48_supervisor.md R454,
60_exceptions.md R512). -/
def Obligations.Halt : Prop :=
  (∀ s : State, s.xm = false → exec .halt s = .next { s with halted := true, ip := s.ip + 2 }) ∧
  (∀ s : State, s.halted = true → s.nextEvent = none → step s = .next s)

/-- O48. dflush and iflush record the flush of the bytes of their operand (48_supervisor.md R458, 48_supervisor.md
R459). -/
def Obligations.AddressFlushes : Prop :=
  ∀ (a : Operand) (s : State) (addr : Word) (z : Size), s.xm = false → s.checkOperands [a] = .ok () →
    s.place (s.nip1 a) a = .mem addr z →
    (∀ pas, s.translateRange s.xm .read addr z.bytes = .ok pas →
      exec (.dflush a) s = .next { s with syncOrder := .dataFlush pas :: s.syncOrder, ip := s.nip1 a } ∧
      (z = .b1 ∨ addr.getLsbD 0 = false →
        exec (.iflush a) s = .next
          { s with
            syncOrder := .execFlush pas :: s.syncOrder
            recent := s.recent.map fun r =>
              if pas.any fun p => (r.old.lookup p).isSome then { r with visibleAt := pas ++ r.visibleAt } else r
            ip := s.nip1 a })) ∧
    (z ≠ .b1 → addr.getLsbD 0 = true → exec (.iflush a) s = .next (s.takeException (.xa addr)))

/-- O49. in reads a device into r0 and sets Z, N and P from the value (48_supervisor.md R462, 60_exceptions.md R526,
60_exceptions.md R527). -/
def Obligations.DeviceRead : Prop :=
  ∀ (z : Size) (s : State), s.xm = false →
    let a := (s.r 2).toNat
    ∃ v : Word, v.toNat < 2 ^ z.bits ∧
      exec (.ioIn z) s = .next
        { s.setR 0 v with
          flags := setP (setZN s.flags v z.bits) v z.bits, syncOrder := .io :: s.syncOrder, ip := s.ip + 2 } ∧
      (s.noDevice a → v = 0) ∧
      (a = 0xfe80 → z = .b2 → v.toNat = s.params.ncpu % 2 ^ 16) ∧
      (∀ n : Fin 128, n.val < s.params.ncpu → z = .b8 →
        (a = 0xff00 + n.val → v = s.loadPointer[n]) ∧
        (a = 0xff80 + n.val → s.cpuActive n = false → v = s.enableWord[n]))

/-- O50. out writes a device, and where no device answers changes only ip and the recorded order (48_supervisor.md
R463, 60_exceptions.md R527 to R532, 10_state.md R55, 10_state.md R56). -/
def Obligations.DeviceWrite : Prop :=
  ∀ (z : Size) (s : State), s.xm = false →
    let done := fun t : State => { t with syncOrder := .io :: s.syncOrder, ip := s.ip + 2 }
    let stop : Host.Outcome State Fault Refusal := .fault .undefinedCpuControl
    let v := s.r 0
    let a := (s.r 2).toNat
    (s.noDevice a ∨ a = 0xfe80 ∨ 2 ^ 32 ≤ a ∨ z ≠ .b8 → exec (.ioOut z) s = .next (done s)) ∧
    (∀ n : Fin 128, n.val < s.params.ncpu → z = .b8 →
      (a = 0xff00 + n.val →
        (s.cpuEnabled n = false → v.toNat < 2 ^ (32 + 4 * s.pas) →
          exec (.ioOut z) s = .next (done { s with loadPointer := s.loadPointer.set n v })) ∧
        (s.cpuEnabled n = true ∨ 2 ^ (32 + 4 * s.pas) ≤ v.toNat → exec (.ioOut z) s = stop)) ∧
      (a = 0xff80 + n.val → s.cpuActive n = false →
        let invalid := v.toNat % 4 = 2 ∨ (v.getLsbD 0 = true ∧ field v 8 48 ≠ 0)
        let enables := v.getLsbD 0 = true ∧ s.cpuEnabled n = false
        let block := (List.range 2048).map (s.loadPointer[n].toNat + ·)
        let slot := s.loadSlot block
        let mustBeZero := fun i => (19 ≤ i ∧ i ≤ 127) ∨ (136 ≤ i ∧ i ≤ 143) ∨ i = 146 ∨ i = 147 ∨ (155 ≤ i ∧ i < 256)
        let legal := (slot 16).getLsbD 0 = false ∧ (slot 17 &&& ~~~0x1F#64) = 0 ∧ (slot 128 &&& ~~~0x3B#64) = 0 ∧
          ptlOf (slot 128) ≤ otherVas n.val ∧ (slot 130 &&& ~~~0x1F#64) = 0 ∧ (slot 133 &&& ~~~0x2#64) = 0 ∧
          (slot 135 &&& ~~~0xFF#64) = 0
        (invalid → exec (.ioOut z) s = stop) ∧
        (¬invalid → ¬enables → exec (.ioOut z) s = .next (done { s with enableWord := s.enableWord.set n v })) ∧
        (¬invalid → enables →
          ((∃ p ∈ block, s.physCheck p ≠ .valid) → exec (.ioOut z) s = stop) ∧
          ((∀ p ∈ block, s.physCheck p = .valid) →
            ((∃ i, mustBeZero i ∧ slot i ≠ 0) → exec (.ioOut z) s = .refused (.startUpBlock n.val)) ∧
            ((∀ i, mustBeZero i → slot i = 0) → ¬legal → exec (.ioOut z) s = stop) ∧
            ((∀ i, mustBeZero i → slot i = 0) → legal →
              exec (.ioOut z) s =
                .next (done { s with
                  enableWord := s.enableWord.set n v, startUp := s.startUp.set n ((List.range 256).map slot) }))))) ∧
      (a = 0xff80 → n.val = 0 →
        (v.toNat % 4 = 3 → v.toNat < 256 →
          exec (.ioOut z) s = .next (done { s with injected := if v = 3 then s.injected else field v 2 6 })) ∧
        (v.toNat % 4 ≠ 3 ∨ 256 ≤ v.toNat → exec (.ioOut z) s = stop)) ∧
      (a = 0x7f00 + n.val →
        ((∀ i, i < 64 → s.physCheck (v.toNat + i) = .valid) →
          ∃ u info, exec (.ioOut z) s = .next u ∧
            StoredAt s u ((List.range 64).map (v.toNat + ·)) (wordsBytes info) ∧
            u = done { s with mem := u.mem, recent := u.recent, ptHistory := u.ptHistory } ∧
            (n.val = 0 → info =
              [s.cpuidlo, s.cpuidhi, s.cpuex2, s.cpuex3, s.cpuex4, s.cpuex5, s.cpuex6, s.mscpuex]) ∧
            (n.val ≠ 0 → ∃ lo hi ex2 ms : Word, info = [lo, hi, ex2, 0, 0, 0, 0, ms] ∧
              (ex2 &&& ~~~0xFC#64) = 1 ∧ (field ex2 5 3).toNat ≤ 4)) ∧
        (∀ i, i < 64 → s.physCheck (v.toNat + i) ≠ .valid →
          (∀ j, j < i → s.physCheck (v.toNat + j) = .valid) →
          ∃ f, f.addr.toNat = (v.toNat + i) % 2 ^ 64 ∧ exec (.ioOut z) s = .next (s.takeException (.pf f)))))

/-- O51. storegf stores the image of all 256 register numbers (48_supervisor.md R465, 48_supervisor.md R468). -/
def Obligations.StoreRegisterFile : Prop :=
  ∀ (a : Operand) (s : State) (addr : Word) (z : Size) (pas : List Nat), s.xm = false → s.checkOperands [a] = .ok () →
    s.place (s.nip1 a) a = .mem addr z → s.translateRange s.xm .write addr 2048 = .ok pas →
    ∃ u msrs, exec (.storegf a) s = .next u ∧
      (s.params.msrModel = .refuse → msrs = List.replicate 7 0) ∧ (s.params.msrModel = .storage → msrs = s.msr.toList) ∧
      StoredAt s u pas (wordsBytes (s.gpr.toList ++ [s.nip1 a, s.flags, s.mode] ++ List.replicate 109 0 ++
        [s.cr0, s.page, s.flprotect, s.scdp, s.scsp, s.sccr, s.itabp, s.ciread,
         s.cpuidlo, s.cpuidhi, s.cpuex2, s.cpuex3, s.cpuex4, s.cpuex5, s.cpuex6, s.mscpuex, s.fcode, s.pfcharp, 0, 0] ++
        msrs ++ List.replicate 101 0)) ∧
      u = { s with mem := u.mem, recent := u.recent, ptHistory := u.ptHistory, ip := s.nip1 a }

/-- O52. rstregf loads every register that is neither reserved nor CPUInfo, ip included (48_supervisor.md R467,
48_supervisor.md R468). -/
def Obligations.RestoreRegisterFile : Prop :=
  ∀ (a : Operand) (s : State) (addr : Word) (z : Size) (pas : List Nat), s.xm = false → s.checkOperands [a] = .ok () →
    s.place (s.nip1 a) a = .mem addr z → s.translateRange s.xm .read addr 2048 = .ok pas →
    let slot := s.loadSlot pas
    (∀ i, i < 256 → (19 ≤ i ∧ i < 128) ∨ i = 146 ∨ i = 147 ∨ 155 ≤ i → slot i = 0) →
    let legal := (slot 128 &&& ~~~0x3B#64) = 0 ∧ ptlOf (slot 128) ≤ s.vas ∧ (slot 130 &&& ~~~0x1F#64) = 0 ∧
      (slot 133 &&& ~~~0x2#64) = 0 ∧ (slot 135 &&& ~~~0xFF#64) = 0
    (legal → ∃ u, exec (.rstregf a) s = .next u ∧ (∀ j, u.r j = slot j.toNat) ∧
      (slot 18 = 0 ∨ slot 18 = 3#64 <<< 32 → u.mode = slot 18) ∧
      u = { s with
            gpr := u.gpr, ip := slot 16, flags := slot 17 &&& 0x1F, mode := u.mode, cr0 := slot 128, page := slot 129,
            flprotect := slot 130, scdp := slot 131, scsp := slot 132, sccr := slot 133, itabp := slot 134,
            ciread := slot 135, fcode := slot 144, pfcharp := slot 145, msr := u.msr, codeView := u.codeView,
            syncOrder := u.syncOrder, ptHistory := u.ptHistory } ∧
      (∀ i : Fin 7, u.msr[i] = if s.params.msrModel = .storage then slot (148 + i.val) else s.msr[i]) ∧
      (slot 129 ≠ s.page ∨ (slot 128).getLsbD 0 ≠ s.pg → u.ptHistory = [])) ∧
    (¬legal → exec (.rstregf a) s = .next (s.takeException .und))

/-- O53. The opcode words of 0x000 and 0xFFF, with every h, decode to und, which raises UND in either mode (R230,
R231). -/
def Obligations.UndefinedOpcodes : Prop :=
  (∀ (h : BitVec 4) (rest : List Byte),
    decode (0x00 :: (0x0#4 ++ h) :: rest) = .ok (.und000 h, rest) ∧
    decode (0xFF :: (0xF#4 ++ h) :: rest) = .ok (.undFFF h, rest)) ∧
  ∀ (i : Instr) (s : State), alwaysUndefined i = true → exec i s = .next (s.takeException .und)

/-- O54. Before an instruction the injected number, the NMI or the lowest enabled request is delivered with ip saved
(60_exceptions.md R505, 60_exceptions.md R510 to R513, 60_exceptions.md R517). -/
def Obligations.EventsTaken : Prop :=
  ∀ s : State, s.eventsHeld = false →
    let taken := fun (t : State) (n : Nat) => step s = .next { ({ t with eventsHeld := true }).deliver n s.ip with draws := s.draws + 1 }
    (s.injected ≠ 0 → s.halted = false → ∃ v, (16 ≤ s.injected.toNat → v = s.fcode) ∧ (s.injected = 2 → v = 0) ∧
      taken { s with injected := 0, fcode := v } s.injected.toNat) ∧
    (s.injected = 0 ∨ s.halted = true →
      (s.pendingNmi = true → ∃ v, taken { s with pendingNmi := false, fcode := v } 5) ∧
      (s.pendingNmi = false →
        (∀ k, k < 32 → s.ie = true → s.pendingIrq.getLsbD k = true → (∀ j, j < k → s.pendingIrq.getLsbD j = false) →
          taken { s with pendingIrq := s.pendingIrq &&& ~~~(1#32 <<< k) } (32 + k)) ∧
        (s.ie = false ∨ s.pendingIrq = 0 → s.nextEvent = none)))

/-- O55. A step runs the instruction that the bytes at ip decode to, or takes the exception of their fetch
(30_encoding.md R173, 30_encoding.md R185, 30_encoding.md R202, 30_encoding.md R203, 60_exceptions.md R488 to R492,
60_exceptions.md R517). -/
def Obligations.StepRunsDecoded : Prop :=
  ∀ s : State, s.nextEvent = none → s.halted = false →
    let took := fun t : State => step s = .next { t with eventsHeld := false, draws := t.draws + 1 }
    let f := s.fetchBytes maxUnits s.ip
    let protFirst := s.xm && startsSupervisor f.1
    (s.ip.getLsbD 0 = true → took (s.takeException (.xa s.ip))) ∧
    (s.ip.getLsbD 0 = false →
      (∀ i rest, decode f.1 = .ok (i, rest) →
        (∀ t, exec i s = .next t → took t) ∧
        (∀ x, exec i s = .fault x → step s = .fault x) ∧
        (∀ r, exec i s = .refused r → step s = .refused r)) ∧
      (decode f.1 = .error .undefinedOpcode ∨ decode f.1 = .error .reservedH → took (s.takeException .und)) ∧
      (decode f.1 = .error .malformedOperand → protFirst = false → took (s.takeException .und)) ∧
      (decode f.1 = .error .malformedOperand ∨ decode f.1 = .error .truncated → protFirst = true →
        took (s.takeException .prot)) ∧
      (decode f.1 = .error .truncated → protFirst = false →
        (∀ p, f.2 = some (.exc (.pf p)) → took (s.takeException (.pf p))) ∧
        (∀ x, f.2 = some (.fault x) → step s = .fault x)))

/-- O56. Words written out from the encodings decode to their instructions (40_undefined_alu_muldiv.md R233,
41_mov_nop_stack.md R261, 46_branches.md R393, 48_supervisor.md R462). -/
def Obligations.DecodeWords : Prop :=
  decode [0x00, 0x10, 0x03, 0x00, 0x80, 0x05] = .ok (.add false false (.reg .b8 0) (.short false 5), []) ∧
  decode [0x00, 0x6C] = .ok (.mul .b8 false, []) ∧
  decode [0x00, 0x80, 0x03, 0x01, 0xC0, 0x00, 0x00, 0x80] =
    .ok (.mov (.reg .b8 1) (.long false (.i16 0x8000)), []) ∧
  decode [0x01, 0x63] = .ok (.pushReg 3, []) ∧
  decode [0x01, 0xC0] = .ok (.pushgpr, []) ∧
  decode [0x02, 0x00, 0x03, 0x01, 0x8F, 0xFF] = .ok (.movsx false (.reg .b8 1) (.short false 0xFFF), []) ∧
  decode [0x03, 0x00, 0x00, 0x01, 0x80, 0x01] = .ok (.lsh false false (.reg .b1 1) (.short false 1), []) ∧
  decode [0x06, 0x9C, 0x03, 0x01, 0x80, 0x07] = .ok (.cmov .nz (.reg .b8 1) (.short false 7), []) ∧
  decode [0x06, 0xE3, 0x80, 0x00] = .ok (.cmpGpr 3 (.short false 0), []) ∧
  decode [0x20, 0x00, 0x40, 0x71, 0x03, 0x02] = .ok (.xchg (.ind 0 0 true .b8 1) (.reg .b8 2), []) ∧
  decode [0x71, 0x30, 0x08, 0x00] = .ok (.jzRel16 0 8, []) ∧
  decode [0x7C, 0x10, 0x00, 0x30] = .ok (.callAbs (.i16 0x3000), []) ∧
  decode [0x7C, 0x40] = .ok (.scall, []) ∧
  decode [0xFC, 0x70] = .ok (.reti, []) ∧
  decode [0x80, 0x10] = .ok (.halt, []) ∧
  decode [0x80, 0x61] = .ok (.ioIn .b2, [])

/-- O57. Decoding the encoding of any well-formed instruction gives the instruction and the rest of the bytes
(30_encoding.md R170, 30_encoding.md R172, 30_encoding.md R200, 30_encoding.md R201, 30_encoding.md R210). -/
def Obligations.DecodeEncode : Prop :=
  (∀ (i : Instr) (rest : List Byte), i.wellFormed = true → decode (encode i ++ rest) = .ok (i, rest)) ∧
  ∀ i : Instr, (encode i).length =
    match i.destination with
    | some d => 2 + d.bytes
    | none => 2 + (i.operands.map Operand.length).sum

/-- O58. Every step keeps memory canonical and the reserved bits of flags and control registers clear (10_state.md
R31, 10_state.md R45, 10_state.md R46, 60_exceptions.md R498). -/
def Obligations.StepKeepsInvariant : Prop :=
  ∀ (s t : State), s.Inv → step s = .next t → t.Inv

/-- O59. No step changes a CPUInfo register or a parameter of the machine (10_state.md R54, 10_state.md R55,
10_state.md R56). -/
def Obligations.StepKeepsConstants : Prop :=
  ∀ (s t : State), step s = .next t → SameConstants s t

/-- O60. No instruction run in program mode changes a supervisor register and stays in program mode (60_exceptions.md
R520, 60_exceptions.md R522, 10_state.md R42, 30_encoding.md R186). -/
def Obligations.ProgramModeIsolation : Prop :=
  ∀ (i : Instr) (s t : State), s.xm = true → exec i s = .next t → t.xm = true →
    SameSupervisor s t ∧ t.mode >>> 32 = s.mode >>> 32
end

