-- ==== Sys2Proof/Laws/Decode.lean ====
section
/-! SUPPORT. The parts of an instruction read back from their encodings. -/

namespace Sys2Proof

/-- The opcode of an opcode word. -/
theorem field_opcode (c : BitVec 12) (h : BitVec 4) : field (c ++ h) 4 12 = c := by
  apply BitVec.eq_of_getLsbD_eq
  intro i hi
  simp only [BitVec.getLsbD_extractLsb', BitVec.getLsbD_append]
  simp [hi]

/-- The `h` nibble of an opcode word. -/
theorem field_nibble (c : BitVec 12) (h : BitVec 4) : field (c ++ h) 0 4 = h := by
  apply BitVec.eq_of_getLsbD_eq
  intro i hi
  simp only [BitVec.getLsbD_extractLsb', BitVec.getLsbD_append]
  simp [hi]

/-- A unit put together from its two bytes. -/
theorem unit_join (w : BitVec 16) : field w 8 8 ++ field w 0 8 = w := by
  apply BitVec.eq_of_getLsbD_eq
  intro i hi
  simp only [BitVec.getLsbD_extractLsb', BitVec.getLsbD_append]
  grind

/-- The size of its code. -/
@[simp] theorem Size.ofCode_code (z : Size) : Size.ofCode z.code = z := by cases z <;> rfl

/-- The condition of its number. -/
@[simp] theorem Cond.ofCode_code (cc : Cond) : Cond.ofCode cc.code = cc := by cases cc <;> rfl

/-- A 4-byte value put together from its bytes. -/
theorem join4 (v : BitVec 32) : field v 24 8 ++ field v 16 8 ++ field v 8 8 ++ field v 0 8 = v := by
  apply BitVec.eq_of_getLsbD_eq
  intro i hi
  simp only [BitVec.getLsbD_extractLsb', BitVec.getLsbD_append]
  grind

/-- An 8-byte value put together from its bytes. -/
theorem join8 (v : BitVec 64) :
    field v 56 8 ++ field v 48 8 ++ field v 40 8 ++ field v 32 8 ++ field v 24 8 ++ field v 16 8 ++ field v 8 8 ++
      field v 0 8 = v := by
  apply BitVec.eq_of_getLsbD_eq
  intro i hi
  simp only [BitVec.getLsbD_extractLsb', BitVec.getLsbD_append]
  grind

/-- An immediate read back from its bytes. -/
theorem takeImm_toBytes (i : SizedImm) (rest : List Byte) : takeImm i.code (i.toBytes ++ rest) = .ok (i, rest) := by
  cases i with
  | i16 v => exact congrArg (fun w => Except.ok (SizedImm.i16 w, rest)) (unit_join v)
  | i32 v => exact congrArg (fun w => Except.ok (SizedImm.i32 w, rest)) (join4 v)
  | i64 v => exact congrArg (fun w => Except.ok (SizedImm.i64 w, rest)) (join8 v)

/-- The fields of a control structure made of parts of 2, 4, 2 and 8 bits. -/
theorem fields_reg (z : BitVec 2) (r : BitVec 8) :
    field (0#2 ++ 0#4 ++ z ++ r) 14 2 = 0 ∧ field (0#2 ++ 0#4 ++ z ++ r) 10 4 = 0 ∧
      field (0#2 ++ 0#4 ++ z ++ r) 8 2 = z ∧ field (0#2 ++ 0#4 ++ z ++ r) 0 8 = r := by
  refine ⟨?_, ?_, ?_, ?_⟩ <;> apply BitVec.eq_of_getLsbD_eq <;> intro i hi <;>
    simp only [BitVec.getLsbD_extractLsb', BitVec.getLsbD_append] <;> grind

/-- The fields of an Indirect control structure. -/
theorem fields_ind (o : BitVec 4) (sc : BitVec 3) (k : Bool) (z : BitVec 2) (base : BitVec 4) :
    let c := 1#2 ++ o ++ sc ++ BitVec.ofBool k ++ z ++ base
    field c 14 2 = 1 ∧ field c 10 4 = o ∧ field c 7 3 = sc ∧ c.getLsbD 6 = k ∧ field c 4 2 = z ∧ field c 0 4 = base := by
  refine ⟨?_, ?_, ?_, ?_, ?_, ?_⟩
  case refine_4 => simp only [BitVec.getLsbD_append]; simp
  all_goals
    apply BitVec.eq_of_getLsbD_eq
    intro i hi
    simp only [BitVec.getLsbD_extractLsb', BitVec.getLsbD_append]
    grind

/-- The fields of a Short Imm control structure. -/
theorem fields_short (rel : Bool) (i : BitVec 12) :
    let c := 2#2 ++ 0#1 ++ BitVec.ofBool rel ++ i
    field c 14 2 = 2 ∧ c.getLsbD 13 = false ∧ c.getLsbD 12 = rel ∧ field c 0 12 = i := by
  refine ⟨?_, ?_, ?_, ?_⟩
  case refine_2 => simp only [BitVec.getLsbD_append]; simp
  case refine_3 => simp only [BitVec.getLsbD_append]; simp
  all_goals
    apply BitVec.eq_of_getLsbD_eq
    intro i hi
    simp only [BitVec.getLsbD_extractLsb', BitVec.getLsbD_append]
    grind

/-- The fields of a Long Imm control structure. -/
theorem fields_long (m rel : Bool) (ss z : BitVec 2) :
    let c := 3#2 ++ BitVec.ofBool m ++ 0#2 ++ BitVec.ofBool rel ++ ss ++ 0#2 ++ z ++ 0#4
    field c 14 2 = 3 ∧ c.getLsbD 13 = m ∧ field c 11 2 = 0 ∧ c.getLsbD 10 = rel ∧ field c 8 2 = ss ∧ field c 6 2 = 0 ∧
      field c 4 2 = z ∧ field c 0 4 = 0 := by
  refine ⟨?_, ?_, ?_, ?_, ?_, ?_, ?_, ?_⟩
  case refine_2 => simp only [BitVec.getLsbD_append]; simp
  case refine_4 => simp only [BitVec.getLsbD_append]; simp
  all_goals
    apply BitVec.eq_of_getLsbD_eq
    intro i hi
    simp only [BitVec.getLsbD_extractLsb', BitVec.getLsbD_append]
    grind

/-- An operand read back from its bytes. -/
theorem takeOperand_encode (o : Operand) (rest : List Byte) : takeOperand (o.encode ++ rest) = .ok (o, rest) := by
  cases o with
  | reg z r =>
    obtain ⟨h1, h2, h3, h4⟩ := fields_reg z.code r
    simp only [Operand.encode, Operand.control]
    generalize 0#2 ++ 0#4 ++ z.code ++ r = c at *
    simp only [unitBytes, List.append_nil, List.cons_append, List.nil_append, takeOperand, unit_join]
    simp [h1, h2, h3, h4]
  | ind o sc k z base =>
    obtain ⟨h1, h2, h3, h4, h5, h6⟩ := fields_ind o sc k z.code base
    simp only [Operand.encode, Operand.control]
    generalize 1#2 ++ o ++ sc ++ BitVec.ofBool k ++ z.code ++ base = c at *
    simp [-BitVec.getLsbD_eq_getElem, unitBytes, takeOperand, unit_join, h1, h2, h3, h4, h5, h6]
  | short rel i =>
    obtain ⟨h1, h2, h3, h4⟩ := fields_short rel i
    simp only [Operand.encode, Operand.control]
    generalize 2#2 ++ 0#1 ++ BitVec.ofBool rel ++ i = c at *
    simp [-BitVec.getLsbD_eq_getElem, unitBytes, takeOperand, unit_join, h1, h2, h3, h4]
  | long rel i =>
    obtain ⟨h1, h2, h3, h4, h5, h6, h7, h8⟩ := fields_long false rel i.code 0#2
    simp only [Operand.encode, Operand.control]
    change takeOperand (unitBytes (3#2 ++ BitVec.ofBool false ++ 0#2 ++ BitVec.ofBool rel ++ i.code ++ 0#2 ++ 0#2 ++ 0#4) ++
      i.toBytes ++ rest) = _
    generalize 3#2 ++ BitVec.ofBool false ++ 0#2 ++ BitVec.ofBool rel ++ i.code ++ 0#2 ++ 0#2 ++ 0#4 = c at *
    simp [-BitVec.getLsbD_eq_getElem, unitBytes, takeOperand,
      takeLong, unit_join, takeImm_toBytes, bind, Except.bind, h1, h2, h3, h4, h5, h6, h7, h8]
  | memRef rel z i =>
    obtain ⟨h1, h2, h3, h4, h5, h6, h7, h8⟩ := fields_long true rel i.code z.code
    simp only [Operand.encode, Operand.control]
    change takeOperand (unitBytes (3#2 ++ BitVec.ofBool true ++ 0#2 ++ BitVec.ofBool rel ++ i.code ++ 0#2 ++ z.code ++ 0#4) ++
      i.toBytes ++ rest) = _
    generalize 3#2 ++ BitVec.ofBool true ++ 0#2 ++ BitVec.ofBool rel ++ i.code ++ 0#2 ++ z.code ++ 0#4 = c at *
    simp [-BitVec.getLsbD_eq_getElem, unitBytes, takeOperand,
      takeLong, unit_join, takeImm_toBytes, bind, Except.bind, h1, h2, h3, h4, h5, h6, h7, h8]

end Sys2Proof
end

