-- ==== Sys2Proof/Laws/Flags.lean ====
section
/-! SUPPORT. The bits of a flags value after each flag computation. -/

namespace Sys2Proof.Machine

/-- A bit of a word in which one bit was replaced. -/
theorem getLsbD_putBit (w : Word) (i j : Nat) (b : Bool) (hi : i < 64) :
    (putBit w i b).getLsbD j = if j = i then b else w.getLsbD j := by
  unfold putBit
  by_cases hj : j < 64
  · have one : (1#64 <<< i).getLsbD j = decide (j = i) := by
      rw [BitVec.getLsbD_shiftLeft, BitVec.getLsbD_one]
      by_cases h : j = i
      · simp [hi, h]
      · simp only [hj, h, decide_true, decide_false, Bool.true_and]; simp; omega
    by_cases h : j = i
    · subst h
      cases b <;>
        simp only [Bool.false_eq_true, if_false, if_true, BitVec.getLsbD_or, BitVec.getLsbD_and, BitVec.getLsbD_not, one,
          hj] <;> simp
    · cases b <;>
        simp only [Bool.false_eq_true, if_false, if_true, BitVec.getLsbD_or, BitVec.getLsbD_and, BitVec.getLsbD_not, one,
          hj, h] <;> simp
  · have high : ∀ w : Word, w.getLsbD j = false := fun w => BitVec.getLsbD_of_ge _ _ (by omega)
    rw [high, high, if_neg (by omega)]

/-- The bits after Z and N are set. -/
theorem getLsbD_setZN (fl r : Word) (n j : Nat) :
    (setZN fl r n).getLsbD j =
      if j = 3 then r.getLsbD (n - 1) else if j = 1 then r == 0 else fl.getLsbD j := by
  simp only [setZN, bitZ, bitN]
  rw [getLsbD_putBit _ _ _ _ (by decide), getLsbD_putBit _ _ _ _ (by decide)]

/-- The bits after C and V are set. -/
theorem getLsbD_setCV (fl : Word) (c v : Bool) (j : Nat) :
    (setCV fl c v).getLsbD j = if j = 2 then v else if j = 0 then c else fl.getLsbD j := by
  simp only [setCV, bitC, bitV]
  rw [getLsbD_putBit _ _ _ _ (by decide), getLsbD_putBit _ _ _ _ (by decide)]

/-- The bits after P is set. -/
theorem getLsbD_setP (fl r : Word) (n j : Nat) :
    (setP fl r n).getLsbD j = if j = 4 then oddParity r n else fl.getLsbD j := by
  simp only [setP, bitP]
  rw [getLsbD_putBit _ _ _ _ (by decide)]

/-- The value of a truncated word. -/
@[simp] theorem toNat_truncBits (n : Nat) (v : Word) : (truncBits n v).toNat = v.toNat % 2 ^ n := by
  simp only [truncBits, BitVec.toNat_ofNat]
  exact Nat.mod_eq_of_lt (lt_of_le_of_lt (Nat.mod_le _ _) v.isLt)

/-- A truncated word fits its width. -/
theorem truncBits_lt (n : Nat) (v : Word) : (truncBits n v).toNat < 2 ^ n := by
  rw [toNat_truncBits]; exact Nat.mod_lt _ (by positivity)

/-- Truncation changes nothing of a value that fits. -/
theorem truncBits_of_lt (n : Nat) (v : Word) (h : v.toNat < 2 ^ n) : truncBits n v = v := by
  apply BitVec.eq_of_toNat_eq; rw [toNat_truncBits, Nat.mod_eq_of_lt h]

/-- Truncation to 64 bits changes nothing. -/
@[simp] theorem truncBits_64 (v : Word) : truncBits 64 v = v := truncBits_of_lt 64 v v.isLt

/-- A bit above the width of a truncated word is 0, one below it is kept. -/
theorem getLsbD_truncBits (n : Nat) (v : Word) (j : Nat) :
    (truncBits n v).getLsbD j = (decide (j < n) && v.getLsbD j) := by
  show (truncBits n v).toNat.testBit j = _
  rw [toNat_truncBits, Nat.testBit_mod_two_pow]; rfl

/-- The top bit of a value that fits `n` bits. -/
theorem getLsbD_top (n : Nat) (h1 : 1 ≤ n) (x : Word) (h : x.toNat < 2 ^ n) :
    x.getLsbD (n - 1) = decide (2 ^ (n - 1) ≤ x.toNat) := by
  show x.toNat.testBit (n - 1) = _
  rw [Nat.testBit_eq_decide_div_mod_eq]
  have hn : 2 ^ n = 2 * 2 ^ (n - 1) := by rw [← pow_succ']; congr; omega
  have h2 : x.toNat / 2 ^ (n - 1) < 2 := by rw [Nat.div_lt_iff_lt_mul (by positivity)]; omega
  by_cases hx : 2 ^ (n - 1) ≤ x.toNat
  · have : 1 ≤ x.toNat / 2 ^ (n - 1) := by rw [Nat.one_le_div_iff (by positivity)]; exact hx
    simp [hx]; omega
  · have : x.toNat / 2 ^ (n - 1) = 0 := Nat.div_eq_of_lt (by omega)
    simp [hx, this]

end Sys2Proof.Machine
end

