-- ==== Sys2Proof/Laws/State.lean ====
section
/-! SUPPORT. What each update of the state leaves in each field. -/

namespace Sys2Proof.Machine

variable (s : State)

@[simp] theorem State.setR_gpr (i : BitVec 4) (v : Word) : (s.setR i v).gpr = s.gpr.set i.toNat v := rfl
@[simp] theorem State.setR_ip (i : BitVec 4) (v : Word) : (s.setR i v).ip = s.ip := rfl
@[simp] theorem State.setR_flags (i : BitVec 4) (v : Word) : (s.setR i v).flags = s.flags := rfl
@[simp] theorem State.setR_mode (i : BitVec 4) (v : Word) : (s.setR i v).mode = s.mode := rfl
@[simp] theorem State.setR_cr0 (i : BitVec 4) (v : Word) : (s.setR i v).cr0 = s.cr0 := rfl
@[simp] theorem State.setR_page (i : BitVec 4) (v : Word) : (s.setR i v).page = s.page := rfl
@[simp] theorem State.setR_flprotect (i : BitVec 4) (v : Word) : (s.setR i v).flprotect = s.flprotect := rfl
@[simp] theorem State.setR_scdp (i : BitVec 4) (v : Word) : (s.setR i v).scdp = s.scdp := rfl
@[simp] theorem State.setR_scsp (i : BitVec 4) (v : Word) : (s.setR i v).scsp = s.scsp := rfl
@[simp] theorem State.setR_sccr (i : BitVec 4) (v : Word) : (s.setR i v).sccr = s.sccr := rfl
@[simp] theorem State.setR_itabp (i : BitVec 4) (v : Word) : (s.setR i v).itabp = s.itabp := rfl
@[simp] theorem State.setR_ciread (i : BitVec 4) (v : Word) : (s.setR i v).ciread = s.ciread := rfl
@[simp] theorem State.setR_cpuidlo (i : BitVec 4) (v : Word) : (s.setR i v).cpuidlo = s.cpuidlo := rfl
@[simp] theorem State.setR_cpuidhi (i : BitVec 4) (v : Word) : (s.setR i v).cpuidhi = s.cpuidhi := rfl
@[simp] theorem State.setR_cpuex2 (i : BitVec 4) (v : Word) : (s.setR i v).cpuex2 = s.cpuex2 := rfl
@[simp] theorem State.setR_cpuex3 (i : BitVec 4) (v : Word) : (s.setR i v).cpuex3 = s.cpuex3 := rfl
@[simp] theorem State.setR_cpuex4 (i : BitVec 4) (v : Word) : (s.setR i v).cpuex4 = s.cpuex4 := rfl
@[simp] theorem State.setR_cpuex5 (i : BitVec 4) (v : Word) : (s.setR i v).cpuex5 = s.cpuex5 := rfl
@[simp] theorem State.setR_cpuex6 (i : BitVec 4) (v : Word) : (s.setR i v).cpuex6 = s.cpuex6 := rfl
@[simp] theorem State.setR_mscpuex (i : BitVec 4) (v : Word) : (s.setR i v).mscpuex = s.mscpuex := rfl
@[simp] theorem State.setR_fcode (i : BitVec 4) (v : Word) : (s.setR i v).fcode = s.fcode := rfl
@[simp] theorem State.setR_pfcharp (i : BitVec 4) (v : Word) : (s.setR i v).pfcharp = s.pfcharp := rfl
@[simp] theorem State.setR_msr (i : BitVec 4) (v : Word) : (s.setR i v).msr = s.msr := rfl
@[simp] theorem State.setR_mem (i : BitVec 4) (v : Word) : (s.setR i v).mem = s.mem := rfl
@[simp] theorem State.setR_recent (i : BitVec 4) (v : Word) : (s.setR i v).recent = s.recent := rfl
@[simp] theorem State.setR_ptHistory (i : BitVec 4) (v : Word) : (s.setR i v).ptHistory = s.ptHistory := rfl
@[simp] theorem State.setR_codeView (i : BitVec 4) (v : Word) : (s.setR i v).codeView = s.codeView := rfl
@[simp] theorem State.setR_syncOrder (i : BitVec 4) (v : Word) : (s.setR i v).syncOrder = s.syncOrder := rfl
@[simp] theorem State.setR_halted (i : BitVec 4) (v : Word) : (s.setR i v).halted = s.halted := rfl
@[simp] theorem State.setR_pendingIrq (i : BitVec 4) (v : Word) : (s.setR i v).pendingIrq = s.pendingIrq := rfl
@[simp] theorem State.setR_pendingNmi (i : BitVec 4) (v : Word) : (s.setR i v).pendingNmi = s.pendingNmi := rfl
@[simp] theorem State.setR_injected (i : BitVec 4) (v : Word) : (s.setR i v).injected = s.injected := rfl
@[simp] theorem State.setR_eventsHeld (i : BitVec 4) (v : Word) : (s.setR i v).eventsHeld = s.eventsHeld := rfl
@[simp] theorem State.setR_enableWord (i : BitVec 4) (v : Word) : (s.setR i v).enableWord = s.enableWord := rfl
@[simp] theorem State.setR_loadPointer (i : BitVec 4) (v : Word) : (s.setR i v).loadPointer = s.loadPointer := rfl
@[simp] theorem State.setR_startUp (i : BitVec 4) (v : Word) : (s.setR i v).startUp = s.startUp := rfl
@[simp] theorem State.setR_params (i : BitVec 4) (v : Word) : (s.setR i v).params = s.params := rfl
@[simp] theorem State.setR_draws (i : BitVec 4) (v : Word) : (s.setR i v).draws = s.draws := rfl
@[simp] theorem State.setR_xm (i : BitVec 4) (v : Word) : (s.setR i v).xm = s.xm := rfl
@[simp] theorem State.setR_ie (i : BitVec 4) (v : Word) : (s.setR i v).ie = s.ie := rfl
@[simp] theorem State.setR_pg (i : BitVec 4) (v : Word) : (s.setR i v).pg = s.pg := rfl
@[simp] theorem State.setR_vas (i : BitVec 4) (v : Word) : (s.setR i v).vas = s.vas := rfl
@[simp] theorem State.setR_pas (i : BitVec 4) (v : Word) : (s.setR i v).pas = s.pas := rfl

@[simp] theorem State.withFlags_gpr (v : Word) : (s.withFlags v).gpr = s.gpr := rfl
@[simp] theorem State.withFlags_ip (v : Word) : (s.withFlags v).ip = s.ip := rfl
@[simp] theorem State.withFlags_flags (v : Word) : (s.withFlags v).flags = v := rfl
@[simp] theorem State.withFlags_mode (v : Word) : (s.withFlags v).mode = s.mode := rfl
@[simp] theorem State.withFlags_cr0 (v : Word) : (s.withFlags v).cr0 = s.cr0 := rfl
@[simp] theorem State.withFlags_page (v : Word) : (s.withFlags v).page = s.page := rfl
@[simp] theorem State.withFlags_flprotect (v : Word) : (s.withFlags v).flprotect = s.flprotect := rfl
@[simp] theorem State.withFlags_scdp (v : Word) : (s.withFlags v).scdp = s.scdp := rfl
@[simp] theorem State.withFlags_scsp (v : Word) : (s.withFlags v).scsp = s.scsp := rfl
@[simp] theorem State.withFlags_sccr (v : Word) : (s.withFlags v).sccr = s.sccr := rfl
@[simp] theorem State.withFlags_itabp (v : Word) : (s.withFlags v).itabp = s.itabp := rfl
@[simp] theorem State.withFlags_ciread (v : Word) : (s.withFlags v).ciread = s.ciread := rfl
@[simp] theorem State.withFlags_cpuidlo (v : Word) : (s.withFlags v).cpuidlo = s.cpuidlo := rfl
@[simp] theorem State.withFlags_cpuidhi (v : Word) : (s.withFlags v).cpuidhi = s.cpuidhi := rfl
@[simp] theorem State.withFlags_cpuex2 (v : Word) : (s.withFlags v).cpuex2 = s.cpuex2 := rfl
@[simp] theorem State.withFlags_cpuex3 (v : Word) : (s.withFlags v).cpuex3 = s.cpuex3 := rfl
@[simp] theorem State.withFlags_cpuex4 (v : Word) : (s.withFlags v).cpuex4 = s.cpuex4 := rfl
@[simp] theorem State.withFlags_cpuex5 (v : Word) : (s.withFlags v).cpuex5 = s.cpuex5 := rfl
@[simp] theorem State.withFlags_cpuex6 (v : Word) : (s.withFlags v).cpuex6 = s.cpuex6 := rfl
@[simp] theorem State.withFlags_mscpuex (v : Word) : (s.withFlags v).mscpuex = s.mscpuex := rfl
@[simp] theorem State.withFlags_fcode (v : Word) : (s.withFlags v).fcode = s.fcode := rfl
@[simp] theorem State.withFlags_pfcharp (v : Word) : (s.withFlags v).pfcharp = s.pfcharp := rfl
@[simp] theorem State.withFlags_msr (v : Word) : (s.withFlags v).msr = s.msr := rfl
@[simp] theorem State.withFlags_mem (v : Word) : (s.withFlags v).mem = s.mem := rfl
@[simp] theorem State.withFlags_recent (v : Word) : (s.withFlags v).recent = s.recent := rfl
@[simp] theorem State.withFlags_ptHistory (v : Word) : (s.withFlags v).ptHistory = s.ptHistory := rfl
@[simp] theorem State.withFlags_codeView (v : Word) : (s.withFlags v).codeView = s.codeView := rfl
@[simp] theorem State.withFlags_syncOrder (v : Word) : (s.withFlags v).syncOrder = s.syncOrder := rfl
@[simp] theorem State.withFlags_halted (v : Word) : (s.withFlags v).halted = s.halted := rfl
@[simp] theorem State.withFlags_pendingIrq (v : Word) : (s.withFlags v).pendingIrq = s.pendingIrq := rfl
@[simp] theorem State.withFlags_pendingNmi (v : Word) : (s.withFlags v).pendingNmi = s.pendingNmi := rfl
@[simp] theorem State.withFlags_injected (v : Word) : (s.withFlags v).injected = s.injected := rfl
@[simp] theorem State.withFlags_eventsHeld (v : Word) : (s.withFlags v).eventsHeld = s.eventsHeld := rfl
@[simp] theorem State.withFlags_enableWord (v : Word) : (s.withFlags v).enableWord = s.enableWord := rfl
@[simp] theorem State.withFlags_loadPointer (v : Word) : (s.withFlags v).loadPointer = s.loadPointer := rfl
@[simp] theorem State.withFlags_startUp (v : Word) : (s.withFlags v).startUp = s.startUp := rfl
@[simp] theorem State.withFlags_params (v : Word) : (s.withFlags v).params = s.params := rfl
@[simp] theorem State.withFlags_draws (v : Word) : (s.withFlags v).draws = s.draws := rfl
@[simp] theorem State.withFlags_xm (v : Word) : (s.withFlags v).xm = s.xm := rfl
@[simp] theorem State.withFlags_ie (v : Word) : (s.withFlags v).ie = s.ie := rfl
@[simp] theorem State.withFlags_pg (v : Word) : (s.withFlags v).pg = s.pg := rfl
@[simp] theorem State.withFlags_vas (v : Word) : (s.withFlags v).vas = s.vas := rfl
@[simp] theorem State.withFlags_pas (v : Word) : (s.withFlags v).pas = s.pas := rfl
@[simp] theorem State.withFlags_r (v : Word) (j : BitVec 4) : (s.withFlags v).r j = s.r j := rfl

@[simp] theorem State.writeFlags_gpr (v : Word) : (s.writeFlags v).gpr = s.gpr := by
  simp only [State.writeFlags]
@[simp] theorem State.writeFlags_ip (v : Word) : (s.writeFlags v).ip = s.ip := by
  simp only [State.writeFlags]
@[simp] theorem State.writeFlags_mode (v : Word) : (s.writeFlags v).mode = s.mode := by
  simp only [State.writeFlags]
@[simp] theorem State.writeFlags_cr0 (v : Word) : (s.writeFlags v).cr0 = s.cr0 := by
  simp only [State.writeFlags]
@[simp] theorem State.writeFlags_page (v : Word) : (s.writeFlags v).page = s.page := by
  simp only [State.writeFlags]
@[simp] theorem State.writeFlags_flprotect (v : Word) : (s.writeFlags v).flprotect = s.flprotect := by
  simp only [State.writeFlags]
@[simp] theorem State.writeFlags_scdp (v : Word) : (s.writeFlags v).scdp = s.scdp := by
  simp only [State.writeFlags]
@[simp] theorem State.writeFlags_scsp (v : Word) : (s.writeFlags v).scsp = s.scsp := by
  simp only [State.writeFlags]
@[simp] theorem State.writeFlags_sccr (v : Word) : (s.writeFlags v).sccr = s.sccr := by
  simp only [State.writeFlags]
@[simp] theorem State.writeFlags_itabp (v : Word) : (s.writeFlags v).itabp = s.itabp := by
  simp only [State.writeFlags]
@[simp] theorem State.writeFlags_ciread (v : Word) : (s.writeFlags v).ciread = s.ciread := by
  simp only [State.writeFlags]
@[simp] theorem State.writeFlags_cpuidlo (v : Word) : (s.writeFlags v).cpuidlo = s.cpuidlo := by
  simp only [State.writeFlags]
@[simp] theorem State.writeFlags_cpuidhi (v : Word) : (s.writeFlags v).cpuidhi = s.cpuidhi := by
  simp only [State.writeFlags]
@[simp] theorem State.writeFlags_cpuex2 (v : Word) : (s.writeFlags v).cpuex2 = s.cpuex2 := by
  simp only [State.writeFlags]
@[simp] theorem State.writeFlags_cpuex3 (v : Word) : (s.writeFlags v).cpuex3 = s.cpuex3 := by
  simp only [State.writeFlags]
@[simp] theorem State.writeFlags_cpuex4 (v : Word) : (s.writeFlags v).cpuex4 = s.cpuex4 := by
  simp only [State.writeFlags]
@[simp] theorem State.writeFlags_cpuex5 (v : Word) : (s.writeFlags v).cpuex5 = s.cpuex5 := by
  simp only [State.writeFlags]
@[simp] theorem State.writeFlags_cpuex6 (v : Word) : (s.writeFlags v).cpuex6 = s.cpuex6 := by
  simp only [State.writeFlags]
@[simp] theorem State.writeFlags_mscpuex (v : Word) : (s.writeFlags v).mscpuex = s.mscpuex := by
  simp only [State.writeFlags]
@[simp] theorem State.writeFlags_fcode (v : Word) : (s.writeFlags v).fcode = s.fcode := by
  simp only [State.writeFlags]
@[simp] theorem State.writeFlags_pfcharp (v : Word) : (s.writeFlags v).pfcharp = s.pfcharp := by
  simp only [State.writeFlags]
@[simp] theorem State.writeFlags_msr (v : Word) : (s.writeFlags v).msr = s.msr := by
  simp only [State.writeFlags]
@[simp] theorem State.writeFlags_mem (v : Word) : (s.writeFlags v).mem = s.mem := by
  simp only [State.writeFlags]
@[simp] theorem State.writeFlags_recent (v : Word) : (s.writeFlags v).recent = s.recent := by
  simp only [State.writeFlags]
@[simp] theorem State.writeFlags_ptHistory (v : Word) : (s.writeFlags v).ptHistory = s.ptHistory := by
  simp only [State.writeFlags]
@[simp] theorem State.writeFlags_codeView (v : Word) : (s.writeFlags v).codeView = s.codeView := by
  simp only [State.writeFlags]
@[simp] theorem State.writeFlags_syncOrder (v : Word) : (s.writeFlags v).syncOrder = s.syncOrder := by
  simp only [State.writeFlags]
@[simp] theorem State.writeFlags_halted (v : Word) : (s.writeFlags v).halted = s.halted := by
  simp only [State.writeFlags]
@[simp] theorem State.writeFlags_pendingIrq (v : Word) : (s.writeFlags v).pendingIrq = s.pendingIrq := by
  simp only [State.writeFlags]
@[simp] theorem State.writeFlags_pendingNmi (v : Word) : (s.writeFlags v).pendingNmi = s.pendingNmi := by
  simp only [State.writeFlags]
@[simp] theorem State.writeFlags_injected (v : Word) : (s.writeFlags v).injected = s.injected := by
  simp only [State.writeFlags]
@[simp] theorem State.writeFlags_eventsHeld (v : Word) : (s.writeFlags v).eventsHeld = s.eventsHeld := by
  simp only [State.writeFlags]
@[simp] theorem State.writeFlags_enableWord (v : Word) : (s.writeFlags v).enableWord = s.enableWord := by
  simp only [State.writeFlags]
@[simp] theorem State.writeFlags_loadPointer (v : Word) : (s.writeFlags v).loadPointer = s.loadPointer := by
  simp only [State.writeFlags]
@[simp] theorem State.writeFlags_startUp (v : Word) : (s.writeFlags v).startUp = s.startUp := by
  simp only [State.writeFlags]
@[simp] theorem State.writeFlags_params (v : Word) : (s.writeFlags v).params = s.params := by
  simp only [State.writeFlags]
@[simp] theorem State.writeFlags_draws (v : Word) : (s.writeFlags v).draws = s.draws := by
  simp only [State.writeFlags]
@[simp] theorem State.writeFlags_xm (v : Word) : (s.writeFlags v).xm = s.xm := by simp [State.xm]
@[simp] theorem State.writeFlags_ie (v : Word) : (s.writeFlags v).ie = s.ie := by simp [State.ie]
@[simp] theorem State.writeFlags_pg (v : Word) : (s.writeFlags v).pg = s.pg := by simp [State.pg]
@[simp] theorem State.writeFlags_vas (v : Word) : (s.writeFlags v).vas = s.vas := by simp [State.vas]
@[simp] theorem State.writeFlags_pas (v : Word) : (s.writeFlags v).pas = s.pas := by simp [State.pas]
@[simp] theorem State.writeFlags_r (v : Word) (j : BitVec 4) : (s.writeFlags v).r j = s.r j := by simp [State.r]

@[simp] theorem State.advance_gpr (v : Word) : (s.advance v).gpr = s.gpr := rfl
@[simp] theorem State.advance_ip (v : Word) : (s.advance v).ip = v := rfl
@[simp] theorem State.advance_flags (v : Word) : (s.advance v).flags = s.flags := rfl
@[simp] theorem State.advance_mode (v : Word) : (s.advance v).mode = s.mode := rfl
@[simp] theorem State.advance_cr0 (v : Word) : (s.advance v).cr0 = s.cr0 := rfl
@[simp] theorem State.advance_page (v : Word) : (s.advance v).page = s.page := rfl
@[simp] theorem State.advance_flprotect (v : Word) : (s.advance v).flprotect = s.flprotect := rfl
@[simp] theorem State.advance_scdp (v : Word) : (s.advance v).scdp = s.scdp := rfl
@[simp] theorem State.advance_scsp (v : Word) : (s.advance v).scsp = s.scsp := rfl
@[simp] theorem State.advance_sccr (v : Word) : (s.advance v).sccr = s.sccr := rfl
@[simp] theorem State.advance_itabp (v : Word) : (s.advance v).itabp = s.itabp := rfl
@[simp] theorem State.advance_ciread (v : Word) : (s.advance v).ciread = s.ciread := rfl
@[simp] theorem State.advance_cpuidlo (v : Word) : (s.advance v).cpuidlo = s.cpuidlo := rfl
@[simp] theorem State.advance_cpuidhi (v : Word) : (s.advance v).cpuidhi = s.cpuidhi := rfl
@[simp] theorem State.advance_cpuex2 (v : Word) : (s.advance v).cpuex2 = s.cpuex2 := rfl
@[simp] theorem State.advance_cpuex3 (v : Word) : (s.advance v).cpuex3 = s.cpuex3 := rfl
@[simp] theorem State.advance_cpuex4 (v : Word) : (s.advance v).cpuex4 = s.cpuex4 := rfl
@[simp] theorem State.advance_cpuex5 (v : Word) : (s.advance v).cpuex5 = s.cpuex5 := rfl
@[simp] theorem State.advance_cpuex6 (v : Word) : (s.advance v).cpuex6 = s.cpuex6 := rfl
@[simp] theorem State.advance_mscpuex (v : Word) : (s.advance v).mscpuex = s.mscpuex := rfl
@[simp] theorem State.advance_fcode (v : Word) : (s.advance v).fcode = s.fcode := rfl
@[simp] theorem State.advance_pfcharp (v : Word) : (s.advance v).pfcharp = s.pfcharp := rfl
@[simp] theorem State.advance_msr (v : Word) : (s.advance v).msr = s.msr := rfl
@[simp] theorem State.advance_mem (v : Word) : (s.advance v).mem = s.mem := rfl
@[simp] theorem State.advance_recent (v : Word) : (s.advance v).recent = s.recent := rfl
@[simp] theorem State.advance_ptHistory (v : Word) : (s.advance v).ptHistory = s.ptHistory := rfl
@[simp] theorem State.advance_codeView (v : Word) : (s.advance v).codeView = s.codeView := rfl
@[simp] theorem State.advance_syncOrder (v : Word) : (s.advance v).syncOrder = s.syncOrder := rfl
@[simp] theorem State.advance_halted (v : Word) : (s.advance v).halted = s.halted := rfl
@[simp] theorem State.advance_pendingIrq (v : Word) : (s.advance v).pendingIrq = s.pendingIrq := rfl
@[simp] theorem State.advance_pendingNmi (v : Word) : (s.advance v).pendingNmi = s.pendingNmi := rfl
@[simp] theorem State.advance_injected (v : Word) : (s.advance v).injected = s.injected := rfl
@[simp] theorem State.advance_eventsHeld (v : Word) : (s.advance v).eventsHeld = s.eventsHeld := rfl
@[simp] theorem State.advance_enableWord (v : Word) : (s.advance v).enableWord = s.enableWord := rfl
@[simp] theorem State.advance_loadPointer (v : Word) : (s.advance v).loadPointer = s.loadPointer := rfl
@[simp] theorem State.advance_startUp (v : Word) : (s.advance v).startUp = s.startUp := rfl
@[simp] theorem State.advance_params (v : Word) : (s.advance v).params = s.params := rfl
@[simp] theorem State.advance_draws (v : Word) : (s.advance v).draws = s.draws := rfl
@[simp] theorem State.advance_xm (v : Word) : (s.advance v).xm = s.xm := rfl
@[simp] theorem State.advance_ie (v : Word) : (s.advance v).ie = s.ie := rfl
@[simp] theorem State.advance_pg (v : Word) : (s.advance v).pg = s.pg := rfl
@[simp] theorem State.advance_vas (v : Word) : (s.advance v).vas = s.vas := rfl
@[simp] theorem State.advance_pas (v : Word) : (s.advance v).pas = s.pas := rfl
@[simp] theorem State.advance_r (v : Word) (j : BitVec 4) : (s.advance v).r j = s.r j := rfl

@[simp] theorem State.codeSync_gpr : (s.codeSync).gpr = s.gpr := rfl
@[simp] theorem State.codeSync_ip : (s.codeSync).ip = s.ip := rfl
@[simp] theorem State.codeSync_flags : (s.codeSync).flags = s.flags := rfl
@[simp] theorem State.codeSync_mode : (s.codeSync).mode = s.mode := rfl
@[simp] theorem State.codeSync_cr0 : (s.codeSync).cr0 = s.cr0 := rfl
@[simp] theorem State.codeSync_page : (s.codeSync).page = s.page := rfl
@[simp] theorem State.codeSync_flprotect : (s.codeSync).flprotect = s.flprotect := rfl
@[simp] theorem State.codeSync_scdp : (s.codeSync).scdp = s.scdp := rfl
@[simp] theorem State.codeSync_scsp : (s.codeSync).scsp = s.scsp := rfl
@[simp] theorem State.codeSync_sccr : (s.codeSync).sccr = s.sccr := rfl
@[simp] theorem State.codeSync_itabp : (s.codeSync).itabp = s.itabp := rfl
@[simp] theorem State.codeSync_ciread : (s.codeSync).ciread = s.ciread := rfl
@[simp] theorem State.codeSync_cpuidlo : (s.codeSync).cpuidlo = s.cpuidlo := rfl
@[simp] theorem State.codeSync_cpuidhi : (s.codeSync).cpuidhi = s.cpuidhi := rfl
@[simp] theorem State.codeSync_cpuex2 : (s.codeSync).cpuex2 = s.cpuex2 := rfl
@[simp] theorem State.codeSync_cpuex3 : (s.codeSync).cpuex3 = s.cpuex3 := rfl
@[simp] theorem State.codeSync_cpuex4 : (s.codeSync).cpuex4 = s.cpuex4 := rfl
@[simp] theorem State.codeSync_cpuex5 : (s.codeSync).cpuex5 = s.cpuex5 := rfl
@[simp] theorem State.codeSync_cpuex6 : (s.codeSync).cpuex6 = s.cpuex6 := rfl
@[simp] theorem State.codeSync_mscpuex : (s.codeSync).mscpuex = s.mscpuex := rfl
@[simp] theorem State.codeSync_fcode : (s.codeSync).fcode = s.fcode := rfl
@[simp] theorem State.codeSync_pfcharp : (s.codeSync).pfcharp = s.pfcharp := rfl
@[simp] theorem State.codeSync_msr : (s.codeSync).msr = s.msr := rfl
@[simp] theorem State.codeSync_mem : (s.codeSync).mem = s.mem := rfl
@[simp] theorem State.codeSync_recent : (s.codeSync).recent = [] := rfl
@[simp] theorem State.codeSync_ptHistory : (s.codeSync).ptHistory = s.ptHistory := rfl
@[simp] theorem State.codeSync_codeView : (s.codeSync).codeView = none := rfl
@[simp] theorem State.codeSync_syncOrder : (s.codeSync).syncOrder = s.syncOrder := rfl
@[simp] theorem State.codeSync_halted : (s.codeSync).halted = s.halted := rfl
@[simp] theorem State.codeSync_pendingIrq : (s.codeSync).pendingIrq = s.pendingIrq := rfl
@[simp] theorem State.codeSync_pendingNmi : (s.codeSync).pendingNmi = s.pendingNmi := rfl
@[simp] theorem State.codeSync_injected : (s.codeSync).injected = s.injected := rfl
@[simp] theorem State.codeSync_eventsHeld : (s.codeSync).eventsHeld = s.eventsHeld := rfl
@[simp] theorem State.codeSync_enableWord : (s.codeSync).enableWord = s.enableWord := rfl
@[simp] theorem State.codeSync_loadPointer : (s.codeSync).loadPointer = s.loadPointer := rfl
@[simp] theorem State.codeSync_startUp : (s.codeSync).startUp = s.startUp := rfl
@[simp] theorem State.codeSync_params : (s.codeSync).params = s.params := rfl
@[simp] theorem State.codeSync_draws : (s.codeSync).draws = s.draws := rfl
@[simp] theorem State.codeSync_xm : (s.codeSync).xm = s.xm := rfl
@[simp] theorem State.codeSync_ie : (s.codeSync).ie = s.ie := rfl
@[simp] theorem State.codeSync_pg : (s.codeSync).pg = s.pg := rfl
@[simp] theorem State.codeSync_vas : (s.codeSync).vas = s.vas := rfl
@[simp] theorem State.codeSync_pas : (s.codeSync).pas = s.pas := rfl
@[simp] theorem State.codeSync_r (j : BitVec 4) : (s.codeSync).r j = s.r j := rfl

@[simp] theorem State.jump_gpr (d : Word) : (s.jump d).gpr = s.gpr := rfl
@[simp] theorem State.jump_ip (d : Word) : (s.jump d).ip = d := rfl
@[simp] theorem State.jump_flags (d : Word) : (s.jump d).flags = s.flags := rfl
@[simp] theorem State.jump_mode (d : Word) : (s.jump d).mode = s.mode := rfl
@[simp] theorem State.jump_cr0 (d : Word) : (s.jump d).cr0 = s.cr0 := rfl
@[simp] theorem State.jump_page (d : Word) : (s.jump d).page = s.page := rfl
@[simp] theorem State.jump_flprotect (d : Word) : (s.jump d).flprotect = s.flprotect := rfl
@[simp] theorem State.jump_scdp (d : Word) : (s.jump d).scdp = s.scdp := rfl
@[simp] theorem State.jump_scsp (d : Word) : (s.jump d).scsp = s.scsp := rfl
@[simp] theorem State.jump_sccr (d : Word) : (s.jump d).sccr = s.sccr := rfl
@[simp] theorem State.jump_itabp (d : Word) : (s.jump d).itabp = s.itabp := rfl
@[simp] theorem State.jump_ciread (d : Word) : (s.jump d).ciread = s.ciread := rfl
@[simp] theorem State.jump_cpuidlo (d : Word) : (s.jump d).cpuidlo = s.cpuidlo := rfl
@[simp] theorem State.jump_cpuidhi (d : Word) : (s.jump d).cpuidhi = s.cpuidhi := rfl
@[simp] theorem State.jump_cpuex2 (d : Word) : (s.jump d).cpuex2 = s.cpuex2 := rfl
@[simp] theorem State.jump_cpuex3 (d : Word) : (s.jump d).cpuex3 = s.cpuex3 := rfl
@[simp] theorem State.jump_cpuex4 (d : Word) : (s.jump d).cpuex4 = s.cpuex4 := rfl
@[simp] theorem State.jump_cpuex5 (d : Word) : (s.jump d).cpuex5 = s.cpuex5 := rfl
@[simp] theorem State.jump_cpuex6 (d : Word) : (s.jump d).cpuex6 = s.cpuex6 := rfl
@[simp] theorem State.jump_mscpuex (d : Word) : (s.jump d).mscpuex = s.mscpuex := rfl
@[simp] theorem State.jump_fcode (d : Word) : (s.jump d).fcode = s.fcode := rfl
@[simp] theorem State.jump_pfcharp (d : Word) : (s.jump d).pfcharp = s.pfcharp := rfl
@[simp] theorem State.jump_msr (d : Word) : (s.jump d).msr = s.msr := rfl
@[simp] theorem State.jump_mem (d : Word) : (s.jump d).mem = s.mem := rfl
@[simp] theorem State.jump_recent (d : Word) : (s.jump d).recent = [] := rfl
@[simp] theorem State.jump_ptHistory (d : Word) : (s.jump d).ptHistory = s.ptHistory := rfl
@[simp] theorem State.jump_codeView (d : Word) : (s.jump d).codeView = none := rfl
@[simp] theorem State.jump_syncOrder (d : Word) : (s.jump d).syncOrder = s.syncOrder := rfl
@[simp] theorem State.jump_halted (d : Word) : (s.jump d).halted = s.halted := rfl
@[simp] theorem State.jump_pendingIrq (d : Word) : (s.jump d).pendingIrq = s.pendingIrq := rfl
@[simp] theorem State.jump_pendingNmi (d : Word) : (s.jump d).pendingNmi = s.pendingNmi := rfl
@[simp] theorem State.jump_injected (d : Word) : (s.jump d).injected = s.injected := rfl
@[simp] theorem State.jump_eventsHeld (d : Word) : (s.jump d).eventsHeld = s.eventsHeld := rfl
@[simp] theorem State.jump_enableWord (d : Word) : (s.jump d).enableWord = s.enableWord := rfl
@[simp] theorem State.jump_loadPointer (d : Word) : (s.jump d).loadPointer = s.loadPointer := rfl
@[simp] theorem State.jump_startUp (d : Word) : (s.jump d).startUp = s.startUp := rfl
@[simp] theorem State.jump_params (d : Word) : (s.jump d).params = s.params := rfl
@[simp] theorem State.jump_draws (d : Word) : (s.jump d).draws = s.draws := rfl
@[simp] theorem State.jump_xm (d : Word) : (s.jump d).xm = s.xm := rfl
@[simp] theorem State.jump_ie (d : Word) : (s.jump d).ie = s.ie := rfl
@[simp] theorem State.jump_pg (d : Word) : (s.jump d).pg = s.pg := rfl
@[simp] theorem State.jump_vas (d : Word) : (s.jump d).vas = s.vas := rfl
@[simp] theorem State.jump_pas (d : Word) : (s.jump d).pas = s.pas := rfl
@[simp] theorem State.jump_r (d : Word) (j : BitVec 4) : (s.jump d).r j = s.r j := rfl

@[simp] theorem State.sync_gpr (op : SyncOp) : (s.sync op).gpr = s.gpr := rfl
@[simp] theorem State.sync_ip (op : SyncOp) : (s.sync op).ip = s.ip := rfl
@[simp] theorem State.sync_flags (op : SyncOp) : (s.sync op).flags = s.flags := rfl
@[simp] theorem State.sync_mode (op : SyncOp) : (s.sync op).mode = s.mode := rfl
@[simp] theorem State.sync_cr0 (op : SyncOp) : (s.sync op).cr0 = s.cr0 := rfl
@[simp] theorem State.sync_page (op : SyncOp) : (s.sync op).page = s.page := rfl
@[simp] theorem State.sync_flprotect (op : SyncOp) : (s.sync op).flprotect = s.flprotect := rfl
@[simp] theorem State.sync_scdp (op : SyncOp) : (s.sync op).scdp = s.scdp := rfl
@[simp] theorem State.sync_scsp (op : SyncOp) : (s.sync op).scsp = s.scsp := rfl
@[simp] theorem State.sync_sccr (op : SyncOp) : (s.sync op).sccr = s.sccr := rfl
@[simp] theorem State.sync_itabp (op : SyncOp) : (s.sync op).itabp = s.itabp := rfl
@[simp] theorem State.sync_ciread (op : SyncOp) : (s.sync op).ciread = s.ciread := rfl
@[simp] theorem State.sync_cpuidlo (op : SyncOp) : (s.sync op).cpuidlo = s.cpuidlo := rfl
@[simp] theorem State.sync_cpuidhi (op : SyncOp) : (s.sync op).cpuidhi = s.cpuidhi := rfl
@[simp] theorem State.sync_cpuex2 (op : SyncOp) : (s.sync op).cpuex2 = s.cpuex2 := rfl
@[simp] theorem State.sync_cpuex3 (op : SyncOp) : (s.sync op).cpuex3 = s.cpuex3 := rfl
@[simp] theorem State.sync_cpuex4 (op : SyncOp) : (s.sync op).cpuex4 = s.cpuex4 := rfl
@[simp] theorem State.sync_cpuex5 (op : SyncOp) : (s.sync op).cpuex5 = s.cpuex5 := rfl
@[simp] theorem State.sync_cpuex6 (op : SyncOp) : (s.sync op).cpuex6 = s.cpuex6 := rfl
@[simp] theorem State.sync_mscpuex (op : SyncOp) : (s.sync op).mscpuex = s.mscpuex := rfl
@[simp] theorem State.sync_fcode (op : SyncOp) : (s.sync op).fcode = s.fcode := rfl
@[simp] theorem State.sync_pfcharp (op : SyncOp) : (s.sync op).pfcharp = s.pfcharp := rfl
@[simp] theorem State.sync_msr (op : SyncOp) : (s.sync op).msr = s.msr := rfl
@[simp] theorem State.sync_mem (op : SyncOp) : (s.sync op).mem = s.mem := rfl
@[simp] theorem State.sync_recent (op : SyncOp) : (s.sync op).recent = s.recent := rfl
@[simp] theorem State.sync_ptHistory (op : SyncOp) : (s.sync op).ptHistory = s.ptHistory := rfl
@[simp] theorem State.sync_codeView (op : SyncOp) : (s.sync op).codeView = s.codeView := rfl
@[simp] theorem State.sync_syncOrder (op : SyncOp) : (s.sync op).syncOrder = op :: s.syncOrder := rfl
@[simp] theorem State.sync_halted (op : SyncOp) : (s.sync op).halted = s.halted := rfl
@[simp] theorem State.sync_pendingIrq (op : SyncOp) : (s.sync op).pendingIrq = s.pendingIrq := rfl
@[simp] theorem State.sync_pendingNmi (op : SyncOp) : (s.sync op).pendingNmi = s.pendingNmi := rfl
@[simp] theorem State.sync_injected (op : SyncOp) : (s.sync op).injected = s.injected := rfl
@[simp] theorem State.sync_eventsHeld (op : SyncOp) : (s.sync op).eventsHeld = s.eventsHeld := rfl
@[simp] theorem State.sync_enableWord (op : SyncOp) : (s.sync op).enableWord = s.enableWord := rfl
@[simp] theorem State.sync_loadPointer (op : SyncOp) : (s.sync op).loadPointer = s.loadPointer := rfl
@[simp] theorem State.sync_startUp (op : SyncOp) : (s.sync op).startUp = s.startUp := rfl
@[simp] theorem State.sync_params (op : SyncOp) : (s.sync op).params = s.params := rfl
@[simp] theorem State.sync_draws (op : SyncOp) : (s.sync op).draws = s.draws := rfl
@[simp] theorem State.sync_xm (op : SyncOp) : (s.sync op).xm = s.xm := rfl
@[simp] theorem State.sync_ie (op : SyncOp) : (s.sync op).ie = s.ie := rfl
@[simp] theorem State.sync_pg (op : SyncOp) : (s.sync op).pg = s.pg := rfl
@[simp] theorem State.sync_vas (op : SyncOp) : (s.sync op).vas = s.vas := rfl
@[simp] theorem State.sync_pas (op : SyncOp) : (s.sync op).pas = s.pas := rfl
@[simp] theorem State.sync_r (op : SyncOp) (j : BitVec 4) : (s.sync op).r j = s.r j := rfl

@[simp] theorem State.dropTranslations_gpr : (s.dropTranslations).gpr = s.gpr := rfl
@[simp] theorem State.dropTranslations_ip : (s.dropTranslations).ip = s.ip := rfl
@[simp] theorem State.dropTranslations_flags : (s.dropTranslations).flags = s.flags := rfl
@[simp] theorem State.dropTranslations_mode : (s.dropTranslations).mode = s.mode := rfl
@[simp] theorem State.dropTranslations_cr0 : (s.dropTranslations).cr0 = s.cr0 := rfl
@[simp] theorem State.dropTranslations_page : (s.dropTranslations).page = s.page := rfl
@[simp] theorem State.dropTranslations_flprotect : (s.dropTranslations).flprotect = s.flprotect := rfl
@[simp] theorem State.dropTranslations_scdp : (s.dropTranslations).scdp = s.scdp := rfl
@[simp] theorem State.dropTranslations_scsp : (s.dropTranslations).scsp = s.scsp := rfl
@[simp] theorem State.dropTranslations_sccr : (s.dropTranslations).sccr = s.sccr := rfl
@[simp] theorem State.dropTranslations_itabp : (s.dropTranslations).itabp = s.itabp := rfl
@[simp] theorem State.dropTranslations_ciread : (s.dropTranslations).ciread = s.ciread := rfl
@[simp] theorem State.dropTranslations_cpuidlo : (s.dropTranslations).cpuidlo = s.cpuidlo := rfl
@[simp] theorem State.dropTranslations_cpuidhi : (s.dropTranslations).cpuidhi = s.cpuidhi := rfl
@[simp] theorem State.dropTranslations_cpuex2 : (s.dropTranslations).cpuex2 = s.cpuex2 := rfl
@[simp] theorem State.dropTranslations_cpuex3 : (s.dropTranslations).cpuex3 = s.cpuex3 := rfl
@[simp] theorem State.dropTranslations_cpuex4 : (s.dropTranslations).cpuex4 = s.cpuex4 := rfl
@[simp] theorem State.dropTranslations_cpuex5 : (s.dropTranslations).cpuex5 = s.cpuex5 := rfl
@[simp] theorem State.dropTranslations_cpuex6 : (s.dropTranslations).cpuex6 = s.cpuex6 := rfl
@[simp] theorem State.dropTranslations_mscpuex : (s.dropTranslations).mscpuex = s.mscpuex := rfl
@[simp] theorem State.dropTranslations_fcode : (s.dropTranslations).fcode = s.fcode := rfl
@[simp] theorem State.dropTranslations_pfcharp : (s.dropTranslations).pfcharp = s.pfcharp := rfl
@[simp] theorem State.dropTranslations_msr : (s.dropTranslations).msr = s.msr := rfl
@[simp] theorem State.dropTranslations_mem : (s.dropTranslations).mem = s.mem := rfl
@[simp] theorem State.dropTranslations_recent : (s.dropTranslations).recent = s.recent := rfl
@[simp] theorem State.dropTranslations_ptHistory : (s.dropTranslations).ptHistory = [] := rfl
@[simp] theorem State.dropTranslations_codeView : (s.dropTranslations).codeView = s.codeView := rfl
@[simp] theorem State.dropTranslations_syncOrder : (s.dropTranslations).syncOrder = s.syncOrder := rfl
@[simp] theorem State.dropTranslations_halted : (s.dropTranslations).halted = s.halted := rfl
@[simp] theorem State.dropTranslations_pendingIrq : (s.dropTranslations).pendingIrq = s.pendingIrq := rfl
@[simp] theorem State.dropTranslations_pendingNmi : (s.dropTranslations).pendingNmi = s.pendingNmi := rfl
@[simp] theorem State.dropTranslations_injected : (s.dropTranslations).injected = s.injected := rfl
@[simp] theorem State.dropTranslations_eventsHeld : (s.dropTranslations).eventsHeld = s.eventsHeld := rfl
@[simp] theorem State.dropTranslations_enableWord : (s.dropTranslations).enableWord = s.enableWord := rfl
@[simp] theorem State.dropTranslations_loadPointer : (s.dropTranslations).loadPointer = s.loadPointer := rfl
@[simp] theorem State.dropTranslations_startUp : (s.dropTranslations).startUp = s.startUp := rfl
@[simp] theorem State.dropTranslations_params : (s.dropTranslations).params = s.params := rfl
@[simp] theorem State.dropTranslations_draws : (s.dropTranslations).draws = s.draws := rfl
@[simp] theorem State.dropTranslations_xm : (s.dropTranslations).xm = s.xm := rfl
@[simp] theorem State.dropTranslations_ie : (s.dropTranslations).ie = s.ie := rfl
@[simp] theorem State.dropTranslations_pg : (s.dropTranslations).pg = s.pg := rfl
@[simp] theorem State.dropTranslations_vas : (s.dropTranslations).vas = s.vas := rfl
@[simp] theorem State.dropTranslations_pas : (s.dropTranslations).pas = s.pas := rfl
@[simp] theorem State.dropTranslations_r (j : BitVec 4) : (s.dropTranslations).r j = s.r j := rfl

@[simp] theorem State.store_gpr (pas : List Nat) (bs : List Byte) : (s.store pas bs).gpr = s.gpr := rfl
@[simp] theorem State.store_ip (pas : List Nat) (bs : List Byte) : (s.store pas bs).ip = s.ip := rfl
@[simp] theorem State.store_flags (pas : List Nat) (bs : List Byte) : (s.store pas bs).flags = s.flags := rfl
@[simp] theorem State.store_mode (pas : List Nat) (bs : List Byte) : (s.store pas bs).mode = s.mode := rfl
@[simp] theorem State.store_cr0 (pas : List Nat) (bs : List Byte) : (s.store pas bs).cr0 = s.cr0 := rfl
@[simp] theorem State.store_page (pas : List Nat) (bs : List Byte) : (s.store pas bs).page = s.page := rfl
@[simp] theorem State.store_flprotect (pas : List Nat) (bs : List Byte) : (s.store pas bs).flprotect = s.flprotect := rfl
@[simp] theorem State.store_scdp (pas : List Nat) (bs : List Byte) : (s.store pas bs).scdp = s.scdp := rfl
@[simp] theorem State.store_scsp (pas : List Nat) (bs : List Byte) : (s.store pas bs).scsp = s.scsp := rfl
@[simp] theorem State.store_sccr (pas : List Nat) (bs : List Byte) : (s.store pas bs).sccr = s.sccr := rfl
@[simp] theorem State.store_itabp (pas : List Nat) (bs : List Byte) : (s.store pas bs).itabp = s.itabp := rfl
@[simp] theorem State.store_ciread (pas : List Nat) (bs : List Byte) : (s.store pas bs).ciread = s.ciread := rfl
@[simp] theorem State.store_cpuidlo (pas : List Nat) (bs : List Byte) : (s.store pas bs).cpuidlo = s.cpuidlo := rfl
@[simp] theorem State.store_cpuidhi (pas : List Nat) (bs : List Byte) : (s.store pas bs).cpuidhi = s.cpuidhi := rfl
@[simp] theorem State.store_cpuex2 (pas : List Nat) (bs : List Byte) : (s.store pas bs).cpuex2 = s.cpuex2 := rfl
@[simp] theorem State.store_cpuex3 (pas : List Nat) (bs : List Byte) : (s.store pas bs).cpuex3 = s.cpuex3 := rfl
@[simp] theorem State.store_cpuex4 (pas : List Nat) (bs : List Byte) : (s.store pas bs).cpuex4 = s.cpuex4 := rfl
@[simp] theorem State.store_cpuex5 (pas : List Nat) (bs : List Byte) : (s.store pas bs).cpuex5 = s.cpuex5 := rfl
@[simp] theorem State.store_cpuex6 (pas : List Nat) (bs : List Byte) : (s.store pas bs).cpuex6 = s.cpuex6 := rfl
@[simp] theorem State.store_mscpuex (pas : List Nat) (bs : List Byte) : (s.store pas bs).mscpuex = s.mscpuex := rfl
@[simp] theorem State.store_fcode (pas : List Nat) (bs : List Byte) : (s.store pas bs).fcode = s.fcode := rfl
@[simp] theorem State.store_pfcharp (pas : List Nat) (bs : List Byte) : (s.store pas bs).pfcharp = s.pfcharp := rfl
@[simp] theorem State.store_msr (pas : List Nat) (bs : List Byte) : (s.store pas bs).msr = s.msr := rfl
@[simp] theorem State.store_mem (pas : List Nat) (bs : List Byte) : (s.store pas bs).mem = Memory.setMany s.mem pas bs := rfl
@[simp] theorem State.store_codeView (pas : List Nat) (bs : List Byte) : (s.store pas bs).codeView = s.codeView := rfl
@[simp] theorem State.store_syncOrder (pas : List Nat) (bs : List Byte) : (s.store pas bs).syncOrder = s.syncOrder := rfl
@[simp] theorem State.store_halted (pas : List Nat) (bs : List Byte) : (s.store pas bs).halted = s.halted := rfl
@[simp] theorem State.store_pendingIrq (pas : List Nat) (bs : List Byte) : (s.store pas bs).pendingIrq = s.pendingIrq := rfl
@[simp] theorem State.store_pendingNmi (pas : List Nat) (bs : List Byte) : (s.store pas bs).pendingNmi = s.pendingNmi := rfl
@[simp] theorem State.store_injected (pas : List Nat) (bs : List Byte) : (s.store pas bs).injected = s.injected := rfl
@[simp] theorem State.store_eventsHeld (pas : List Nat) (bs : List Byte) : (s.store pas bs).eventsHeld = s.eventsHeld := rfl
@[simp] theorem State.store_enableWord (pas : List Nat) (bs : List Byte) : (s.store pas bs).enableWord = s.enableWord := rfl
@[simp] theorem State.store_loadPointer (pas : List Nat) (bs : List Byte) : (s.store pas bs).loadPointer = s.loadPointer := rfl
@[simp] theorem State.store_startUp (pas : List Nat) (bs : List Byte) : (s.store pas bs).startUp = s.startUp := rfl
@[simp] theorem State.store_params (pas : List Nat) (bs : List Byte) : (s.store pas bs).params = s.params := rfl
@[simp] theorem State.store_draws (pas : List Nat) (bs : List Byte) : (s.store pas bs).draws = s.draws := rfl
@[simp] theorem State.store_xm (pas : List Nat) (bs : List Byte) : (s.store pas bs).xm = s.xm := rfl
@[simp] theorem State.store_ie (pas : List Nat) (bs : List Byte) : (s.store pas bs).ie = s.ie := rfl
@[simp] theorem State.store_pg (pas : List Nat) (bs : List Byte) : (s.store pas bs).pg = s.pg := rfl
@[simp] theorem State.store_vas (pas : List Nat) (bs : List Byte) : (s.store pas bs).vas = s.vas := rfl
@[simp] theorem State.store_pas (pas : List Nat) (bs : List Byte) : (s.store pas bs).pas = s.pas := rfl
@[simp] theorem State.store_r (pas : List Nat) (bs : List Byte) (j : BitVec 4) : (s.store pas bs).r j = s.r j := rfl

@[simp] theorem State.tick_gpr : (s.tick).gpr = s.gpr := rfl
@[simp] theorem State.tick_ip : (s.tick).ip = s.ip := rfl
@[simp] theorem State.tick_flags : (s.tick).flags = s.flags := rfl
@[simp] theorem State.tick_mode : (s.tick).mode = s.mode := rfl
@[simp] theorem State.tick_cr0 : (s.tick).cr0 = s.cr0 := rfl
@[simp] theorem State.tick_page : (s.tick).page = s.page := rfl
@[simp] theorem State.tick_flprotect : (s.tick).flprotect = s.flprotect := rfl
@[simp] theorem State.tick_scdp : (s.tick).scdp = s.scdp := rfl
@[simp] theorem State.tick_scsp : (s.tick).scsp = s.scsp := rfl
@[simp] theorem State.tick_sccr : (s.tick).sccr = s.sccr := rfl
@[simp] theorem State.tick_itabp : (s.tick).itabp = s.itabp := rfl
@[simp] theorem State.tick_ciread : (s.tick).ciread = s.ciread := rfl
@[simp] theorem State.tick_cpuidlo : (s.tick).cpuidlo = s.cpuidlo := rfl
@[simp] theorem State.tick_cpuidhi : (s.tick).cpuidhi = s.cpuidhi := rfl
@[simp] theorem State.tick_cpuex2 : (s.tick).cpuex2 = s.cpuex2 := rfl
@[simp] theorem State.tick_cpuex3 : (s.tick).cpuex3 = s.cpuex3 := rfl
@[simp] theorem State.tick_cpuex4 : (s.tick).cpuex4 = s.cpuex4 := rfl
@[simp] theorem State.tick_cpuex5 : (s.tick).cpuex5 = s.cpuex5 := rfl
@[simp] theorem State.tick_cpuex6 : (s.tick).cpuex6 = s.cpuex6 := rfl
@[simp] theorem State.tick_mscpuex : (s.tick).mscpuex = s.mscpuex := rfl
@[simp] theorem State.tick_fcode : (s.tick).fcode = s.fcode := rfl
@[simp] theorem State.tick_pfcharp : (s.tick).pfcharp = s.pfcharp := rfl
@[simp] theorem State.tick_msr : (s.tick).msr = s.msr := rfl
@[simp] theorem State.tick_mem : (s.tick).mem = s.mem := rfl
@[simp] theorem State.tick_recent : (s.tick).recent = s.recent := rfl
@[simp] theorem State.tick_ptHistory : (s.tick).ptHistory = s.ptHistory := rfl
@[simp] theorem State.tick_codeView : (s.tick).codeView = s.codeView := rfl
@[simp] theorem State.tick_syncOrder : (s.tick).syncOrder = s.syncOrder := rfl
@[simp] theorem State.tick_halted : (s.tick).halted = s.halted := rfl
@[simp] theorem State.tick_pendingIrq : (s.tick).pendingIrq = s.pendingIrq := rfl
@[simp] theorem State.tick_pendingNmi : (s.tick).pendingNmi = s.pendingNmi := rfl
@[simp] theorem State.tick_injected : (s.tick).injected = s.injected := rfl
@[simp] theorem State.tick_eventsHeld : (s.tick).eventsHeld = false := rfl
@[simp] theorem State.tick_enableWord : (s.tick).enableWord = s.enableWord := rfl
@[simp] theorem State.tick_loadPointer : (s.tick).loadPointer = s.loadPointer := rfl
@[simp] theorem State.tick_startUp : (s.tick).startUp = s.startUp := rfl
@[simp] theorem State.tick_params : (s.tick).params = s.params := rfl
@[simp] theorem State.tick_draws : (s.tick).draws = s.draws + 1 := rfl
@[simp] theorem State.tick_xm : (s.tick).xm = s.xm := rfl
@[simp] theorem State.tick_ie : (s.tick).ie = s.ie := rfl
@[simp] theorem State.tick_pg : (s.tick).pg = s.pg := rfl
@[simp] theorem State.tick_vas : (s.tick).vas = s.vas := rfl
@[simp] theorem State.tick_pas : (s.tick).pas = s.pas := rfl
@[simp] theorem State.tick_r (j : BitVec 4) : (s.tick).r j = s.r j := rfl

@[simp] theorem State.impliedFlush_gpr : (s.impliedFlush).gpr = s.gpr := rfl
@[simp] theorem State.impliedFlush_ip : (s.impliedFlush).ip = s.ip := rfl
@[simp] theorem State.impliedFlush_flags : (s.impliedFlush).flags = s.flags := rfl
@[simp] theorem State.impliedFlush_mode : (s.impliedFlush).mode = s.mode := rfl
@[simp] theorem State.impliedFlush_cr0 : (s.impliedFlush).cr0 = s.cr0 := rfl
@[simp] theorem State.impliedFlush_page : (s.impliedFlush).page = s.page := rfl
@[simp] theorem State.impliedFlush_flprotect : (s.impliedFlush).flprotect = s.flprotect := rfl
@[simp] theorem State.impliedFlush_scdp : (s.impliedFlush).scdp = s.scdp := rfl
@[simp] theorem State.impliedFlush_scsp : (s.impliedFlush).scsp = s.scsp := rfl
@[simp] theorem State.impliedFlush_sccr : (s.impliedFlush).sccr = s.sccr := rfl
@[simp] theorem State.impliedFlush_itabp : (s.impliedFlush).itabp = s.itabp := rfl
@[simp] theorem State.impliedFlush_ciread : (s.impliedFlush).ciread = s.ciread := rfl
@[simp] theorem State.impliedFlush_cpuidlo : (s.impliedFlush).cpuidlo = s.cpuidlo := rfl
@[simp] theorem State.impliedFlush_cpuidhi : (s.impliedFlush).cpuidhi = s.cpuidhi := rfl
@[simp] theorem State.impliedFlush_cpuex2 : (s.impliedFlush).cpuex2 = s.cpuex2 := rfl
@[simp] theorem State.impliedFlush_cpuex3 : (s.impliedFlush).cpuex3 = s.cpuex3 := rfl
@[simp] theorem State.impliedFlush_cpuex4 : (s.impliedFlush).cpuex4 = s.cpuex4 := rfl
@[simp] theorem State.impliedFlush_cpuex5 : (s.impliedFlush).cpuex5 = s.cpuex5 := rfl
@[simp] theorem State.impliedFlush_cpuex6 : (s.impliedFlush).cpuex6 = s.cpuex6 := rfl
@[simp] theorem State.impliedFlush_mscpuex : (s.impliedFlush).mscpuex = s.mscpuex := rfl
@[simp] theorem State.impliedFlush_fcode : (s.impliedFlush).fcode = s.fcode := rfl
@[simp] theorem State.impliedFlush_pfcharp : (s.impliedFlush).pfcharp = s.pfcharp := rfl
@[simp] theorem State.impliedFlush_msr : (s.impliedFlush).msr = s.msr := rfl
@[simp] theorem State.impliedFlush_mem : (s.impliedFlush).mem = s.mem := rfl
@[simp] theorem State.impliedFlush_recent : (s.impliedFlush).recent = s.recent := rfl
@[simp] theorem State.impliedFlush_ptHistory : (s.impliedFlush).ptHistory = [] := rfl
@[simp] theorem State.impliedFlush_codeView : (s.impliedFlush).codeView = s.codeView := rfl
@[simp] theorem State.impliedFlush_halted : (s.impliedFlush).halted = s.halted := rfl
@[simp] theorem State.impliedFlush_pendingIrq : (s.impliedFlush).pendingIrq = s.pendingIrq := rfl
@[simp] theorem State.impliedFlush_pendingNmi : (s.impliedFlush).pendingNmi = s.pendingNmi := rfl
@[simp] theorem State.impliedFlush_injected : (s.impliedFlush).injected = s.injected := rfl
@[simp] theorem State.impliedFlush_eventsHeld : (s.impliedFlush).eventsHeld = s.eventsHeld := rfl
@[simp] theorem State.impliedFlush_enableWord : (s.impliedFlush).enableWord = s.enableWord := rfl
@[simp] theorem State.impliedFlush_loadPointer : (s.impliedFlush).loadPointer = s.loadPointer := rfl
@[simp] theorem State.impliedFlush_startUp : (s.impliedFlush).startUp = s.startUp := rfl
@[simp] theorem State.impliedFlush_params : (s.impliedFlush).params = s.params := rfl
@[simp] theorem State.impliedFlush_draws : (s.impliedFlush).draws = s.draws := rfl
@[simp] theorem State.impliedFlush_xm : (s.impliedFlush).xm = s.xm := rfl
@[simp] theorem State.impliedFlush_ie : (s.impliedFlush).ie = s.ie := rfl
@[simp] theorem State.impliedFlush_pg : (s.impliedFlush).pg = s.pg := rfl
@[simp] theorem State.impliedFlush_vas : (s.impliedFlush).vas = s.vas := rfl
@[simp] theorem State.impliedFlush_pas : (s.impliedFlush).pas = s.pas := rfl
@[simp] theorem State.impliedFlush_r (j : BitVec 4) : (s.impliedFlush).r j = s.r j := rfl

@[simp] theorem State.loadGprs_ip (pas : List Nat) : (s.loadGprs pas).ip = s.ip := by
  simp only [State.loadGprs]
@[simp] theorem State.loadGprs_flags (pas : List Nat) : (s.loadGprs pas).flags = s.flags := by
  simp only [State.loadGprs]
@[simp] theorem State.loadGprs_mode (pas : List Nat) : (s.loadGprs pas).mode = s.mode := by
  simp only [State.loadGprs]
@[simp] theorem State.loadGprs_cr0 (pas : List Nat) : (s.loadGprs pas).cr0 = s.cr0 := by
  simp only [State.loadGprs]
@[simp] theorem State.loadGprs_page (pas : List Nat) : (s.loadGprs pas).page = s.page := by
  simp only [State.loadGprs]
@[simp] theorem State.loadGprs_flprotect (pas : List Nat) : (s.loadGprs pas).flprotect = s.flprotect := by
  simp only [State.loadGprs]
@[simp] theorem State.loadGprs_scdp (pas : List Nat) : (s.loadGprs pas).scdp = s.scdp := by
  simp only [State.loadGprs]
@[simp] theorem State.loadGprs_scsp (pas : List Nat) : (s.loadGprs pas).scsp = s.scsp := by
  simp only [State.loadGprs]
@[simp] theorem State.loadGprs_sccr (pas : List Nat) : (s.loadGprs pas).sccr = s.sccr := by
  simp only [State.loadGprs]
@[simp] theorem State.loadGprs_itabp (pas : List Nat) : (s.loadGprs pas).itabp = s.itabp := by
  simp only [State.loadGprs]
@[simp] theorem State.loadGprs_ciread (pas : List Nat) : (s.loadGprs pas).ciread = s.ciread := by
  simp only [State.loadGprs]
@[simp] theorem State.loadGprs_cpuidlo (pas : List Nat) : (s.loadGprs pas).cpuidlo = s.cpuidlo := by
  simp only [State.loadGprs]
@[simp] theorem State.loadGprs_cpuidhi (pas : List Nat) : (s.loadGprs pas).cpuidhi = s.cpuidhi := by
  simp only [State.loadGprs]
@[simp] theorem State.loadGprs_cpuex2 (pas : List Nat) : (s.loadGprs pas).cpuex2 = s.cpuex2 := by
  simp only [State.loadGprs]
@[simp] theorem State.loadGprs_cpuex3 (pas : List Nat) : (s.loadGprs pas).cpuex3 = s.cpuex3 := by
  simp only [State.loadGprs]
@[simp] theorem State.loadGprs_cpuex4 (pas : List Nat) : (s.loadGprs pas).cpuex4 = s.cpuex4 := by
  simp only [State.loadGprs]
@[simp] theorem State.loadGprs_cpuex5 (pas : List Nat) : (s.loadGprs pas).cpuex5 = s.cpuex5 := by
  simp only [State.loadGprs]
@[simp] theorem State.loadGprs_cpuex6 (pas : List Nat) : (s.loadGprs pas).cpuex6 = s.cpuex6 := by
  simp only [State.loadGprs]
@[simp] theorem State.loadGprs_mscpuex (pas : List Nat) : (s.loadGprs pas).mscpuex = s.mscpuex := by
  simp only [State.loadGprs]
@[simp] theorem State.loadGprs_fcode (pas : List Nat) : (s.loadGprs pas).fcode = s.fcode := by
  simp only [State.loadGprs]
@[simp] theorem State.loadGprs_pfcharp (pas : List Nat) : (s.loadGprs pas).pfcharp = s.pfcharp := by
  simp only [State.loadGprs]
@[simp] theorem State.loadGprs_msr (pas : List Nat) : (s.loadGprs pas).msr = s.msr := by
  simp only [State.loadGprs]
@[simp] theorem State.loadGprs_mem (pas : List Nat) : (s.loadGprs pas).mem = s.mem := by
  simp only [State.loadGprs]
@[simp] theorem State.loadGprs_recent (pas : List Nat) : (s.loadGprs pas).recent = s.recent := by
  simp only [State.loadGprs]
@[simp] theorem State.loadGprs_ptHistory (pas : List Nat) : (s.loadGprs pas).ptHistory = s.ptHistory := by
  simp only [State.loadGprs]
@[simp] theorem State.loadGprs_codeView (pas : List Nat) : (s.loadGprs pas).codeView = s.codeView := by
  simp only [State.loadGprs]
@[simp] theorem State.loadGprs_syncOrder (pas : List Nat) : (s.loadGprs pas).syncOrder = s.syncOrder := by
  simp only [State.loadGprs]
@[simp] theorem State.loadGprs_halted (pas : List Nat) : (s.loadGprs pas).halted = s.halted := by
  simp only [State.loadGprs]
@[simp] theorem State.loadGprs_pendingIrq (pas : List Nat) : (s.loadGprs pas).pendingIrq = s.pendingIrq := by
  simp only [State.loadGprs]
@[simp] theorem State.loadGprs_pendingNmi (pas : List Nat) : (s.loadGprs pas).pendingNmi = s.pendingNmi := by
  simp only [State.loadGprs]
@[simp] theorem State.loadGprs_injected (pas : List Nat) : (s.loadGprs pas).injected = s.injected := by
  simp only [State.loadGprs]
@[simp] theorem State.loadGprs_eventsHeld (pas : List Nat) : (s.loadGprs pas).eventsHeld = s.eventsHeld := by
  simp only [State.loadGprs]
@[simp] theorem State.loadGprs_enableWord (pas : List Nat) : (s.loadGprs pas).enableWord = s.enableWord := by
  simp only [State.loadGprs]
@[simp] theorem State.loadGprs_loadPointer (pas : List Nat) : (s.loadGprs pas).loadPointer = s.loadPointer := by
  simp only [State.loadGprs]
@[simp] theorem State.loadGprs_startUp (pas : List Nat) : (s.loadGprs pas).startUp = s.startUp := by
  simp only [State.loadGprs]
@[simp] theorem State.loadGprs_params (pas : List Nat) : (s.loadGprs pas).params = s.params := by
  simp only [State.loadGprs]
@[simp] theorem State.loadGprs_draws (pas : List Nat) : (s.loadGprs pas).draws = s.draws := by
  simp only [State.loadGprs]
@[simp] theorem State.loadGprs_xm (pas : List Nat) : (s.loadGprs pas).xm = s.xm := by simp [State.xm]
@[simp] theorem State.loadGprs_ie (pas : List Nat) : (s.loadGprs pas).ie = s.ie := by simp [State.ie]
@[simp] theorem State.loadGprs_pg (pas : List Nat) : (s.loadGprs pas).pg = s.pg := by simp [State.pg]
@[simp] theorem State.loadGprs_vas (pas : List Nat) : (s.loadGprs pas).vas = s.vas := by simp [State.vas]
@[simp] theorem State.loadGprs_pas (pas : List Nat) : (s.loadGprs pas).pas = s.pas := by simp [State.pas]

@[simp] theorem State.setPaging_gpr (c p : Word) : (s.setPaging c p).gpr = s.gpr := by
  unfold State.setPaging; dsimp only; split <;> rfl
@[simp] theorem State.setPaging_ip (c p : Word) : (s.setPaging c p).ip = s.ip := by
  unfold State.setPaging; dsimp only; split <;> rfl
@[simp] theorem State.setPaging_flags (c p : Word) : (s.setPaging c p).flags = s.flags := by
  unfold State.setPaging; dsimp only; split <;> rfl
@[simp] theorem State.setPaging_mode (c p : Word) : (s.setPaging c p).mode = s.mode := by
  unfold State.setPaging; dsimp only; split <;> rfl
@[simp] theorem State.setPaging_cr0 (c p : Word) : (s.setPaging c p).cr0 = c := by
  unfold State.setPaging; dsimp only; split <;> rfl
@[simp] theorem State.setPaging_page (c p : Word) : (s.setPaging c p).page = p := by
  unfold State.setPaging; dsimp only; split <;> rfl
@[simp] theorem State.setPaging_flprotect (c p : Word) : (s.setPaging c p).flprotect = s.flprotect := by
  unfold State.setPaging; dsimp only; split <;> rfl
@[simp] theorem State.setPaging_scdp (c p : Word) : (s.setPaging c p).scdp = s.scdp := by
  unfold State.setPaging; dsimp only; split <;> rfl
@[simp] theorem State.setPaging_scsp (c p : Word) : (s.setPaging c p).scsp = s.scsp := by
  unfold State.setPaging; dsimp only; split <;> rfl
@[simp] theorem State.setPaging_sccr (c p : Word) : (s.setPaging c p).sccr = s.sccr := by
  unfold State.setPaging; dsimp only; split <;> rfl
@[simp] theorem State.setPaging_itabp (c p : Word) : (s.setPaging c p).itabp = s.itabp := by
  unfold State.setPaging; dsimp only; split <;> rfl
@[simp] theorem State.setPaging_ciread (c p : Word) : (s.setPaging c p).ciread = s.ciread := by
  unfold State.setPaging; dsimp only; split <;> rfl
@[simp] theorem State.setPaging_cpuidlo (c p : Word) : (s.setPaging c p).cpuidlo = s.cpuidlo := by
  unfold State.setPaging; dsimp only; split <;> rfl
@[simp] theorem State.setPaging_cpuidhi (c p : Word) : (s.setPaging c p).cpuidhi = s.cpuidhi := by
  unfold State.setPaging; dsimp only; split <;> rfl
@[simp] theorem State.setPaging_cpuex2 (c p : Word) : (s.setPaging c p).cpuex2 = s.cpuex2 := by
  unfold State.setPaging; dsimp only; split <;> rfl
@[simp] theorem State.setPaging_cpuex3 (c p : Word) : (s.setPaging c p).cpuex3 = s.cpuex3 := by
  unfold State.setPaging; dsimp only; split <;> rfl
@[simp] theorem State.setPaging_cpuex4 (c p : Word) : (s.setPaging c p).cpuex4 = s.cpuex4 := by
  unfold State.setPaging; dsimp only; split <;> rfl
@[simp] theorem State.setPaging_cpuex5 (c p : Word) : (s.setPaging c p).cpuex5 = s.cpuex5 := by
  unfold State.setPaging; dsimp only; split <;> rfl
@[simp] theorem State.setPaging_cpuex6 (c p : Word) : (s.setPaging c p).cpuex6 = s.cpuex6 := by
  unfold State.setPaging; dsimp only; split <;> rfl
@[simp] theorem State.setPaging_mscpuex (c p : Word) : (s.setPaging c p).mscpuex = s.mscpuex := by
  unfold State.setPaging; dsimp only; split <;> rfl
@[simp] theorem State.setPaging_fcode (c p : Word) : (s.setPaging c p).fcode = s.fcode := by
  unfold State.setPaging; dsimp only; split <;> rfl
@[simp] theorem State.setPaging_pfcharp (c p : Word) : (s.setPaging c p).pfcharp = s.pfcharp := by
  unfold State.setPaging; dsimp only; split <;> rfl
@[simp] theorem State.setPaging_msr (c p : Word) : (s.setPaging c p).msr = s.msr := by
  unfold State.setPaging; dsimp only; split <;> rfl
@[simp] theorem State.setPaging_mem (c p : Word) : (s.setPaging c p).mem = s.mem := by
  unfold State.setPaging; dsimp only; split <;> rfl
@[simp] theorem State.setPaging_recent (c p : Word) : (s.setPaging c p).recent = s.recent := by
  unfold State.setPaging; dsimp only; split <;> rfl
@[simp] theorem State.setPaging_halted (c p : Word) : (s.setPaging c p).halted = s.halted := by
  unfold State.setPaging; dsimp only; split <;> rfl
@[simp] theorem State.setPaging_pendingIrq (c p : Word) : (s.setPaging c p).pendingIrq = s.pendingIrq := by
  unfold State.setPaging; dsimp only; split <;> rfl
@[simp] theorem State.setPaging_pendingNmi (c p : Word) : (s.setPaging c p).pendingNmi = s.pendingNmi := by
  unfold State.setPaging; dsimp only; split <;> rfl
@[simp] theorem State.setPaging_injected (c p : Word) : (s.setPaging c p).injected = s.injected := by
  unfold State.setPaging; dsimp only; split <;> rfl
@[simp] theorem State.setPaging_eventsHeld (c p : Word) : (s.setPaging c p).eventsHeld = s.eventsHeld := by
  unfold State.setPaging; dsimp only; split <;> rfl
@[simp] theorem State.setPaging_enableWord (c p : Word) : (s.setPaging c p).enableWord = s.enableWord := by
  unfold State.setPaging; dsimp only; split <;> rfl
@[simp] theorem State.setPaging_loadPointer (c p : Word) : (s.setPaging c p).loadPointer = s.loadPointer := by
  unfold State.setPaging; dsimp only; split <;> rfl
@[simp] theorem State.setPaging_startUp (c p : Word) : (s.setPaging c p).startUp = s.startUp := by
  unfold State.setPaging; dsimp only; split <;> rfl
@[simp] theorem State.setPaging_params (c p : Word) : (s.setPaging c p).params = s.params := by
  unfold State.setPaging; dsimp only; split <;> rfl
@[simp] theorem State.setPaging_draws (c p : Word) : (s.setPaging c p).draws = s.draws := by
  unfold State.setPaging; dsimp only; split <;> rfl
@[simp] theorem State.setPaging_xm (c p : Word) : (s.setPaging c p).xm = s.xm := by simp [State.xm]
@[simp] theorem State.setPaging_vas (c p : Word) : (s.setPaging c p).vas = s.vas := by simp [State.vas]
@[simp] theorem State.setPaging_pas (c p : Word) : (s.setPaging c p).pas = s.pas := by simp [State.pas]
@[simp] theorem State.setPaging_r (c p : Word) (j : BitVec 4) : (s.setPaging c p).r j = s.r j := by simp [State.r]

@[simp] theorem State.storeBlocks_gpr (n : Nat) (pas : List Nat) (bs : List Byte) : (s.storeBlocks n pas bs).gpr = s.gpr := by
  induction n generalizing s pas bs with
  | zero => rfl
  | succ n ih => exact ih _ _ _
@[simp] theorem State.storeBlocks_ip (n : Nat) (pas : List Nat) (bs : List Byte) : (s.storeBlocks n pas bs).ip = s.ip := by
  induction n generalizing s pas bs with
  | zero => rfl
  | succ n ih => exact ih _ _ _
@[simp] theorem State.storeBlocks_flags (n : Nat) (pas : List Nat) (bs : List Byte) : (s.storeBlocks n pas bs).flags = s.flags := by
  induction n generalizing s pas bs with
  | zero => rfl
  | succ n ih => exact ih _ _ _
@[simp] theorem State.storeBlocks_mode (n : Nat) (pas : List Nat) (bs : List Byte) : (s.storeBlocks n pas bs).mode = s.mode := by
  induction n generalizing s pas bs with
  | zero => rfl
  | succ n ih => exact ih _ _ _
@[simp] theorem State.storeBlocks_cr0 (n : Nat) (pas : List Nat) (bs : List Byte) : (s.storeBlocks n pas bs).cr0 = s.cr0 := by
  induction n generalizing s pas bs with
  | zero => rfl
  | succ n ih => exact ih _ _ _
@[simp] theorem State.storeBlocks_page (n : Nat) (pas : List Nat) (bs : List Byte) : (s.storeBlocks n pas bs).page = s.page := by
  induction n generalizing s pas bs with
  | zero => rfl
  | succ n ih => exact ih _ _ _
@[simp] theorem State.storeBlocks_flprotect (n : Nat) (pas : List Nat) (bs : List Byte) : (s.storeBlocks n pas bs).flprotect = s.flprotect := by
  induction n generalizing s pas bs with
  | zero => rfl
  | succ n ih => exact ih _ _ _
@[simp] theorem State.storeBlocks_scdp (n : Nat) (pas : List Nat) (bs : List Byte) : (s.storeBlocks n pas bs).scdp = s.scdp := by
  induction n generalizing s pas bs with
  | zero => rfl
  | succ n ih => exact ih _ _ _
@[simp] theorem State.storeBlocks_scsp (n : Nat) (pas : List Nat) (bs : List Byte) : (s.storeBlocks n pas bs).scsp = s.scsp := by
  induction n generalizing s pas bs with
  | zero => rfl
  | succ n ih => exact ih _ _ _
@[simp] theorem State.storeBlocks_sccr (n : Nat) (pas : List Nat) (bs : List Byte) : (s.storeBlocks n pas bs).sccr = s.sccr := by
  induction n generalizing s pas bs with
  | zero => rfl
  | succ n ih => exact ih _ _ _
@[simp] theorem State.storeBlocks_itabp (n : Nat) (pas : List Nat) (bs : List Byte) : (s.storeBlocks n pas bs).itabp = s.itabp := by
  induction n generalizing s pas bs with
  | zero => rfl
  | succ n ih => exact ih _ _ _
@[simp] theorem State.storeBlocks_ciread (n : Nat) (pas : List Nat) (bs : List Byte) : (s.storeBlocks n pas bs).ciread = s.ciread := by
  induction n generalizing s pas bs with
  | zero => rfl
  | succ n ih => exact ih _ _ _
@[simp] theorem State.storeBlocks_cpuidlo (n : Nat) (pas : List Nat) (bs : List Byte) : (s.storeBlocks n pas bs).cpuidlo = s.cpuidlo := by
  induction n generalizing s pas bs with
  | zero => rfl
  | succ n ih => exact ih _ _ _
@[simp] theorem State.storeBlocks_cpuidhi (n : Nat) (pas : List Nat) (bs : List Byte) : (s.storeBlocks n pas bs).cpuidhi = s.cpuidhi := by
  induction n generalizing s pas bs with
  | zero => rfl
  | succ n ih => exact ih _ _ _
@[simp] theorem State.storeBlocks_cpuex2 (n : Nat) (pas : List Nat) (bs : List Byte) : (s.storeBlocks n pas bs).cpuex2 = s.cpuex2 := by
  induction n generalizing s pas bs with
  | zero => rfl
  | succ n ih => exact ih _ _ _
@[simp] theorem State.storeBlocks_cpuex3 (n : Nat) (pas : List Nat) (bs : List Byte) : (s.storeBlocks n pas bs).cpuex3 = s.cpuex3 := by
  induction n generalizing s pas bs with
  | zero => rfl
  | succ n ih => exact ih _ _ _
@[simp] theorem State.storeBlocks_cpuex4 (n : Nat) (pas : List Nat) (bs : List Byte) : (s.storeBlocks n pas bs).cpuex4 = s.cpuex4 := by
  induction n generalizing s pas bs with
  | zero => rfl
  | succ n ih => exact ih _ _ _
@[simp] theorem State.storeBlocks_cpuex5 (n : Nat) (pas : List Nat) (bs : List Byte) : (s.storeBlocks n pas bs).cpuex5 = s.cpuex5 := by
  induction n generalizing s pas bs with
  | zero => rfl
  | succ n ih => exact ih _ _ _
@[simp] theorem State.storeBlocks_cpuex6 (n : Nat) (pas : List Nat) (bs : List Byte) : (s.storeBlocks n pas bs).cpuex6 = s.cpuex6 := by
  induction n generalizing s pas bs with
  | zero => rfl
  | succ n ih => exact ih _ _ _
@[simp] theorem State.storeBlocks_mscpuex (n : Nat) (pas : List Nat) (bs : List Byte) : (s.storeBlocks n pas bs).mscpuex = s.mscpuex := by
  induction n generalizing s pas bs with
  | zero => rfl
  | succ n ih => exact ih _ _ _
@[simp] theorem State.storeBlocks_fcode (n : Nat) (pas : List Nat) (bs : List Byte) : (s.storeBlocks n pas bs).fcode = s.fcode := by
  induction n generalizing s pas bs with
  | zero => rfl
  | succ n ih => exact ih _ _ _
@[simp] theorem State.storeBlocks_pfcharp (n : Nat) (pas : List Nat) (bs : List Byte) : (s.storeBlocks n pas bs).pfcharp = s.pfcharp := by
  induction n generalizing s pas bs with
  | zero => rfl
  | succ n ih => exact ih _ _ _
@[simp] theorem State.storeBlocks_msr (n : Nat) (pas : List Nat) (bs : List Byte) : (s.storeBlocks n pas bs).msr = s.msr := by
  induction n generalizing s pas bs with
  | zero => rfl
  | succ n ih => exact ih _ _ _
@[simp] theorem State.storeBlocks_codeView (n : Nat) (pas : List Nat) (bs : List Byte) : (s.storeBlocks n pas bs).codeView = s.codeView := by
  induction n generalizing s pas bs with
  | zero => rfl
  | succ n ih => exact ih _ _ _
@[simp] theorem State.storeBlocks_syncOrder (n : Nat) (pas : List Nat) (bs : List Byte) : (s.storeBlocks n pas bs).syncOrder = s.syncOrder := by
  induction n generalizing s pas bs with
  | zero => rfl
  | succ n ih => exact ih _ _ _
@[simp] theorem State.storeBlocks_halted (n : Nat) (pas : List Nat) (bs : List Byte) : (s.storeBlocks n pas bs).halted = s.halted := by
  induction n generalizing s pas bs with
  | zero => rfl
  | succ n ih => exact ih _ _ _
@[simp] theorem State.storeBlocks_pendingIrq (n : Nat) (pas : List Nat) (bs : List Byte) : (s.storeBlocks n pas bs).pendingIrq = s.pendingIrq := by
  induction n generalizing s pas bs with
  | zero => rfl
  | succ n ih => exact ih _ _ _
@[simp] theorem State.storeBlocks_pendingNmi (n : Nat) (pas : List Nat) (bs : List Byte) : (s.storeBlocks n pas bs).pendingNmi = s.pendingNmi := by
  induction n generalizing s pas bs with
  | zero => rfl
  | succ n ih => exact ih _ _ _
@[simp] theorem State.storeBlocks_injected (n : Nat) (pas : List Nat) (bs : List Byte) : (s.storeBlocks n pas bs).injected = s.injected := by
  induction n generalizing s pas bs with
  | zero => rfl
  | succ n ih => exact ih _ _ _
@[simp] theorem State.storeBlocks_eventsHeld (n : Nat) (pas : List Nat) (bs : List Byte) : (s.storeBlocks n pas bs).eventsHeld = s.eventsHeld := by
  induction n generalizing s pas bs with
  | zero => rfl
  | succ n ih => exact ih _ _ _
@[simp] theorem State.storeBlocks_enableWord (n : Nat) (pas : List Nat) (bs : List Byte) : (s.storeBlocks n pas bs).enableWord = s.enableWord := by
  induction n generalizing s pas bs with
  | zero => rfl
  | succ n ih => exact ih _ _ _
@[simp] theorem State.storeBlocks_loadPointer (n : Nat) (pas : List Nat) (bs : List Byte) : (s.storeBlocks n pas bs).loadPointer = s.loadPointer := by
  induction n generalizing s pas bs with
  | zero => rfl
  | succ n ih => exact ih _ _ _
@[simp] theorem State.storeBlocks_startUp (n : Nat) (pas : List Nat) (bs : List Byte) : (s.storeBlocks n pas bs).startUp = s.startUp := by
  induction n generalizing s pas bs with
  | zero => rfl
  | succ n ih => exact ih _ _ _
@[simp] theorem State.storeBlocks_params (n : Nat) (pas : List Nat) (bs : List Byte) : (s.storeBlocks n pas bs).params = s.params := by
  induction n generalizing s pas bs with
  | zero => rfl
  | succ n ih => exact ih _ _ _
@[simp] theorem State.storeBlocks_draws (n : Nat) (pas : List Nat) (bs : List Byte) : (s.storeBlocks n pas bs).draws = s.draws := by
  induction n generalizing s pas bs with
  | zero => rfl
  | succ n ih => exact ih _ _ _
@[simp] theorem State.storeBlocks_xm (n : Nat) (pas : List Nat) (bs : List Byte) : (s.storeBlocks n pas bs).xm = s.xm := by simp [State.xm]
@[simp] theorem State.storeBlocks_ie (n : Nat) (pas : List Nat) (bs : List Byte) : (s.storeBlocks n pas bs).ie = s.ie := by simp [State.ie]
@[simp] theorem State.storeBlocks_pg (n : Nat) (pas : List Nat) (bs : List Byte) : (s.storeBlocks n pas bs).pg = s.pg := by simp [State.pg]
@[simp] theorem State.storeBlocks_vas (n : Nat) (pas : List Nat) (bs : List Byte) : (s.storeBlocks n pas bs).vas = s.vas := by simp [State.vas]
@[simp] theorem State.storeBlocks_pas (n : Nat) (pas : List Nat) (bs : List Byte) : (s.storeBlocks n pas bs).pas = s.pas := by simp [State.pas]
@[simp] theorem State.storeBlocks_r (n : Nat) (pas : List Nat) (bs : List Byte) (j : BitVec 4) : (s.storeBlocks n pas bs).r j = s.r j := by simp [State.r]

/-- Reading a general register after writing one. -/
@[simp] theorem State.setR_r (i j : BitVec 4) (v : Word) : (s.setR i v).r j = if i = j then v else s.r j := by
  by_cases h : i = j
  · subst h; simp [State.r, State.setR]
  · have : i.toNat ≠ j.toNat := fun e => h (BitVec.eq_of_toNat_eq e)
    simp [State.r, State.setR, h, this]

end Sys2Proof.Machine
end

