-- ==== Sys2Proof/Laws/Memory.lean ====
section
/-! SUPPORT. Memory: what a byte reads as after a write, and the canonical form, which every operation keeps. -/

namespace Sys2Proof.Machine

/-- The canonical form as a statement about pairs and about bytes. -/
theorem Memory.wf_iff (m : Memory) :
    Memory.wf m = true ↔ m.Pairwise (fun c d => c.1 < d.1) ∧ ∀ c ∈ m, c.2 ≠ 0 := by
  induction m with
  | nil => simp [Memory.wf]
  | cons c m ih =>
    cases m with
    | nil => simp [Memory.wf]
    | cons d m =>
      simp only [Memory.wf, Bool.and_eq_true, bne_iff_ne, ne_eq, decide_eq_true_eq, ih, List.pairwise_cons,
        List.forall_mem_cons]
      constructor
      · rintro ⟨⟨h1, h2⟩, ⟨h3, h4⟩, h5, h6⟩
        exact ⟨⟨⟨h2, fun e he => lt_trans h2 (h3 e he)⟩, h3, h4⟩, h1, h5, h6⟩
      · rintro ⟨⟨⟨h2, _⟩, h3, h4⟩, h1, h5, h6⟩
        exact ⟨⟨h1, h2⟩, ⟨h3, h4⟩, h5, h6⟩

/-- The entries after an insertion. -/
theorem Memory.mem_insert (m : Memory) (a : Nat) (v : Byte) (c : Host.Cell) :
    c ∈ Memory.insert m a v ↔ c = (a, v) ∨ c ∈ m := by
  induction m with
  | nil => simp [Memory.insert]
  | cons d m ih =>
    obtain ⟨b, w⟩ := d
    simp only [Memory.insert]
    split
    · simp
    · simp only [List.mem_cons, ih]; tauto

/-- A byte read after an insertion at an address the list does not hold. -/
theorem Memory.get_insert (m : Memory) (a : Nat) (v : Byte) (b : Nat) (h : ∀ c ∈ m, c.1 ≠ a) :
    Memory.get (Memory.insert m a v) b = if b = a then v else Memory.get m b := by
  induction m with
  | nil => simp [Memory.insert, Memory.get]
  | cons d m ih =>
    obtain ⟨e, w⟩ := d
    have he : e ≠ a := h (e, w) (by simp)
    have ih := ih fun c hc => h c (by simp [hc])
    simp only [Memory.insert]
    split
    · simp [Memory.get]
    · simp only [Memory.get, ih]
      by_cases hb : b = e
      · subst hb; simp [he]
      · simp [hb]

/-- A byte read after the entry of an address is dropped. -/
theorem Memory.get_filter (m : Memory) (a b : Nat) :
    Memory.get (m.filter fun c => c.1 != a) b = if b = a then 0 else Memory.get m b := by
  induction m with
  | nil => simp [Memory.get]
  | cons d m ih =>
    obtain ⟨e, w⟩ := d
    by_cases he : e = a
    · subst he
      simp only [List.filter, bne_self_eq_false, ih, Memory.get]
      by_cases hb : b = e <;> simp [hb]
    · have : (e != a) = true := by simp [he]
      simp only [List.filter, this, Memory.get, ih]
      by_cases hb : b = e
      · subst hb; simp [he]
      · simp [hb]

/-- A byte read after a write. -/
@[simp] theorem Memory.get_set (m : Memory) (a : Nat) (v : Byte) (b : Nat) :
    Memory.get (Memory.set m a v) b = if b = a then v else Memory.get m b := by
  simp only [Memory.set]
  split
  · rename_i h; subst h; exact Memory.get_filter m a b
  · rw [Memory.get_insert _ _ _ _ (by simp), Memory.get_filter]
    by_cases hb : b = a <;> simp [hb]

/-- A write keeps the canonical form. -/
theorem Memory.wf_set (m : Memory) (a : Nat) (v : Byte) (h : Memory.wf m = true) :
    Memory.wf (Memory.set m a v) = true := by
  rw [Memory.wf_iff] at h ⊢
  obtain ⟨hp, hn⟩ := h
  have hf : (m.filter fun c => c.1 != a).Pairwise fun c d => c.1 < d.1 := hp.filter _
  have hfn : ∀ c ∈ m.filter fun c => c.1 != a, c.2 ≠ 0 := fun c hc => hn c (List.mem_filter.mp hc).1
  have hfa : ∀ c ∈ m.filter fun c => c.1 != a, c.1 ≠ a := fun c hc => by simpa using (List.mem_filter.mp hc).2
  simp only [Memory.set]
  split
  · exact ⟨hf, hfn⟩
  · rename_i hv
    refine ⟨?_, fun c hc => ?_⟩
    · generalize (m.filter fun c => c.1 != a) = l at hf hfa
      induction l with
      | nil => simp [Memory.insert]
      | cons d l ih =>
        obtain ⟨e, w⟩ := d
        have he : e ≠ a := hfa (e, w) (by simp)
        rw [List.pairwise_cons] at hf
        simp only [Memory.insert]
        split
        · rename_i hae
          refine List.pairwise_cons.mpr ⟨fun c hc => ?_, List.pairwise_cons.mpr hf⟩
          rcases List.mem_cons.mp hc with rfl | hc
          · exact hae
          · exact lt_trans hae (hf.1 c hc)
        · rename_i hae
          refine List.pairwise_cons.mpr ⟨fun c hc => ?_, ih hf.2 fun c hc => hfa c (by simp [hc])⟩
          rcases (Memory.mem_insert l a v c).mp hc with rfl | hc
          · simp only; omega
          · exact hf.1 c hc
    · rcases (Memory.mem_insert _ a v c).mp hc with rfl | hc
      · exact hv
      · exact hfn c hc

/-- Writing several bytes keeps the canonical form. -/
theorem Memory.wf_setMany (m : Memory) (pas : List Nat) (bs : List Byte) (h : Memory.wf m = true) :
    Memory.wf (Memory.setMany m pas bs) = true := by
  unfold Memory.setMany
  induction pas.zip bs generalizing m with
  | nil => exact h
  | cons c l ih => exact ih _ (Memory.wf_set m c.1 c.2 h)

/-- A byte outside the addresses written reads as before. -/
theorem Memory.get_setMany_of_notMem (m : Memory) (pas : List Nat) (bs : List Byte) (b : Nat) (h : b ∉ pas) :
    Memory.get (Memory.setMany m pas bs) b = Memory.get m b := by
  unfold Memory.setMany
  have h' : ∀ c ∈ pas.zip bs, b ≠ c.1 := fun c hc e => h (e ▸ (List.of_mem_zip hc).1)
  clear h
  generalize pas.zip bs = l at h'
  induction l generalizing m with
  | nil => rfl
  | cons c l ih =>
    simp only [List.foldl_cons]
    rw [ih _ fun d hd => h' d (by simp [hd]), Memory.get_set]
    simp [h' c (by simp)]

/-- The bytes written at distinct addresses read back. -/
theorem Memory.map_get_setMany (m : Memory) (pas : List Nat) (bs : List Byte) (hd : pas.Nodup)
    (hl : pas.length = bs.length) : pas.map (Memory.get (Memory.setMany m pas bs)) = bs := by
  induction pas generalizing m bs with
  | nil => simpa using hl.symm
  | cons a pas ih =>
    cases bs with
    | nil => simp at hl
    | cons v bs =>
      have hd' := List.nodup_cons.mp hd
      have hs : Memory.setMany m (a :: pas) (v :: bs) = Memory.setMany (Memory.set m a v) pas bs := rfl
      rw [hs, List.map_cons, ih _ _ hd'.2 (by simpa using hl), Memory.get_setMany_of_notMem _ _ _ _ hd'.1]
      simp

/-- A store keeps the canonical form. -/
theorem State.wf_store (s : State) (pas : List Nat) (bs : List Byte) (h : Memory.wf s.mem = true) :
    Memory.wf (s.store pas bs).mem = true := Memory.wf_setMany _ _ _ h

/-- A store in blocks keeps the canonical form. -/
theorem State.wf_storeBlocks (s : State) (n : Nat) (pas : List Nat) (bs : List Byte) (h : Memory.wf s.mem = true) :
    Memory.wf (s.storeBlocks n pas bs).mem = true := by
  induction n generalizing s pas bs with
  | zero => exact h
  | succ n ih => exact ih _ _ _ (s.wf_store _ _ h)

/-- A byte outside the addresses of a store reads as before. -/
theorem State.get_store_of_notMem (s : State) (pas : List Nat) (bs : List Byte) (b : Nat) (h : b ∉ pas) :
    (s.store pas bs).mem.get b = s.mem.get b := Memory.get_setMany_of_notMem _ _ _ _ h

/-- A byte outside the addresses of a store in blocks reads as before. -/
theorem State.get_storeBlocks_of_notMem (s : State) (n : Nat) (pas : List Nat) (bs : List Byte) (b : Nat) (h : b ∉ pas) :
    (s.storeBlocks n pas bs).mem.get b = s.mem.get b := by
  induction n generalizing s pas bs with
  | zero => rfl
  | succ n ih =>
    have h1 : b ∉ pas.take 128 := fun hm => h (List.mem_of_mem_take hm)
    have h2 : b ∉ pas.drop 128 := fun hm => h (List.mem_of_mem_drop hm)
    exact (ih _ _ _ h2).trans (s.get_store_of_notMem _ _ _ h1)

/-- The bytes of a value put together again. -/
theorem leValue_leBytes (n v : Nat) : leValue (leBytes n v) = v % 256 ^ n := by
  induction n generalizing v with
  | zero => simp [leBytes, leValue, Nat.mod_one]
  | succ n ih =>
    have : leBytes (n + 1) v = BitVec.ofNat 8 v :: leBytes n (v / 256) := by
      simp only [leBytes, List.range_succ_eq_map, List.map_cons, List.map_map]
      congr 1
      apply List.map_congr_left
      intro i _
      simp only [Function.comp_apply, Nat.succ_eq_add_one, Nat.shiftRight_eq_div_pow, Nat.div_div_eq_div_mul]
      congr 2
      rw [show 8 * (i + 1) = 8 + 8 * i by ring, pow_add]; norm_num
    rw [this, leValue, ih, BitVec.toNat_ofNat, show 256 ^ (n + 1) = 256 * 256 ^ n by ring, Nat.mod_mul]

@[simp] theorem leBytes_length (n v : Nat) : (leBytes n v).length = n := by simp [leBytes]

/-- The entries of an image from address `n` up: none lies below `n`, and they are in the canonical form. -/
theorem image_wf (image : List Byte) (n : Nat) :
    let m : Memory := (image.zipIdx n).filterMap fun c => if c.1 = 0 then none else some (c.2, c.1)
    (∀ c ∈ m, n ≤ c.1) ∧ Memory.wf m = true := by
  induction image generalizing n with
  | nil => exact ⟨nofun, rfl⟩
  | cons b image ih =>
    obtain ⟨above, wf⟩ := ih (n + 1)
    simp only [List.zipIdx_cons, List.filterMap_cons]
    by_cases hb : b = 0
    · simp only [hb, if_true]
      exact ⟨fun c hc => Nat.le_of_succ_le (above c hc), wf⟩
    · simp only [hb, if_false]
      generalize ((image.zipIdx (n + 1)).filterMap fun c => if c.1 = 0 then none else some (c.2, c.1)) = m at above wf
      refine ⟨fun c hc => ?_, ?_⟩
      · rcases List.mem_cons.mp hc with rfl | hc
        · exact Nat.le_refl _
        · exact Nat.le_of_succ_le (above c hc)
      · match m with
        | [] => exact bne_iff_ne.mpr hb
        | (a, v) :: m =>
          simp only [Memory.wf, Bool.and_eq_true, decide_eq_true_eq]
          exact ⟨⟨bne_iff_ne.mpr hb, above _ List.mem_cons_self⟩, wf⟩

/-- The memory of a boot image is in the canonical form (10_state.md R65). -/
theorem imageMemory_wf (image : List Byte) : Memory.wf (imageMemory image) = true := (image_wf _ 0).2

end Sys2Proof.Machine
end

