-- ==== Sys2Proof/Laws/Translate.lean ====
section
/-! SUPPORT. Translation of addresses: what a successful one yields, and the addresses of a range. -/

namespace Sys2Proof.Machine

/-- A valid physical address is in range and present. -/
theorem State.physCheck_valid (s : State) (p : Nat) :
    s.physCheck p = .valid ↔ p < 2 ^ (32 + 4 * s.pas) ∧ s.params.allocatable p = true := by
  unfold State.physCheck
  split
  · rename_i h; simp; omega
  · rename_i h; split <;> simp_all

/-- A walk that ends keeps the offset in the page and yields a valid address. -/
theorem State.walk_ok {s : State} {xm : Bool} {kind : Access} {bits : Nat} {b : Word} {level t : Nat} {via : Word × Byte}
    {sxp : Bool} {p : Nat} (h : s.walk xm kind bits b level t via sxp = .ok p) :
    p % 4096 = b.toNat % 4096 ∧ s.physCheck p = .valid := by
  induction level generalizing t via sxp with
  | zero =>
    unfold State.walk at h
    simp only [bind, Except.bind] at h
    split at h
    · split at h
      · simp at h
      split at h
      · simp at h
      split at h
      · rename_i hv
        simp only [Except.ok.injEq] at h
        subst h
        refine ⟨?_, hv⟩
        simp only [addressPart]
        omega
      · simp at h
    · simp at h
  | succ l ih =>
    unfold State.walk at h
    simp only [bind, Except.bind] at h
    split at h
    · split at h
      · simp at h
      exact ih h
    · simp at h

/-- A translation that succeeds keeps the offset in the page and yields a valid address; with paging off it is the address
itself. -/
theorem State.translate_ok {s : State} {xm : Bool} {kind : Access} {b : Word} {p : Nat}
    (h : s.translate xm kind b = .ok p) :
    p % 4096 = b.toNat % 4096 ∧ s.physCheck p = .valid ∧ (s.pg = false → p = b.toNat) := by
  unfold State.translate at h
  split at h
  · rename_i hpg
    unfold State.translateVirtual at h
    simp only at h
    split at h
    · simp at h
    · split at h
      · split at h
        · have := State.walk_ok h
          exact ⟨this.1, this.2, by simp [hpg]⟩
        · simp at h
      · simp at h
  · split at h
    · rename_i hv
      simp only [Except.ok.injEq] at h
      subst h
      exact ⟨rfl, hv, fun _ => rfl⟩
    · simp at h

/-- A translated range has one address for each byte: the offsets in the page are those of the range. -/
theorem State.translateFrom_ok {s : State} {xm : Bool} {kind : Access} {first : Word} {n : Nat} {b : Word} {pas : List Nat}
    (h : s.translateFrom xm kind first n b = .ok pas) :
    pas.map (· % 4096) = (List.range n).map (fun i => (b.toNat + i) % 4096) := by
  induction n generalizing b pas with
  | zero => simp [State.translateFrom] at h; subst h; rfl
  | succ n ih =>
    simp only [State.translateFrom, bind, Except.bind] at h
    split at h
    · split at h
      · simp at h
      rename_i p hp
      split at h
      · simp at h
      rename_i ps hps
      simp only [Except.ok.injEq] at h
      subst h
      rw [List.range_succ_eq_map, List.map_cons, List.map_cons, ih hps, (State.translate_ok hp).1, List.map_map]
      congr 1
      apply List.map_congr_left
      intro i _
      simp only [Function.comp_apply, Nat.succ_eq_add_one, BitVec.toNat_add]
      change ((b.toNat + 1) % 2 ^ 64 + i) % 4096 = _
      omega
    · simp at h

/-- A translated range has one address for each byte. -/
theorem State.translateRange_length {s : State} {xm : Bool} {kind : Access} {addr : Word} {n : Nat} {pas : List Nat}
    (h : s.translateRange xm kind addr n = .ok pas) : pas.length = n := by
  simpa using congrArg List.length (State.translateFrom_ok h)

/-- The addresses of a range of at most a page are distinct. -/
theorem State.translateRange_nodup {s : State} {xm : Bool} {kind : Access} {addr : Word} {n : Nat} {pas : List Nat}
    (h : s.translateRange xm kind addr n = .ok pas) (hn : n ≤ 4096) : pas.Nodup := by
  have h' := State.translateFrom_ok h
  apply List.Nodup.of_map (· % 4096)
  rw [h']
  refine List.Nodup.map_on ?_ List.nodup_range
  intro i hi j hj hij
  simp only [List.mem_range] at hi hj
  omega

/-- What a store leaves at its own addresses. -/
theorem State.bytesAt_store (s : State) (pas : List Nat) (bs : List Byte) (hd : pas.Nodup) (hl : pas.length = bs.length) :
    (s.store pas bs).bytesAt pas = bs := Memory.map_get_setMany _ _ _ hd hl

/-- What a store in blocks leaves at its own addresses. -/
theorem State.bytesAt_storeBlocks (s : State) (n : Nat) (pas : List Nat) (bs : List Byte) (hd : pas.Nodup)
    (hl : pas.length = bs.length) (hn : bs.length ≤ 128 * n) : (s.storeBlocks n pas bs).bytesAt pas = bs := by
  induction n generalizing s pas bs with
  | zero =>
    have : bs = [] := List.length_eq_zero_iff.mp (by omega)
    subst this
    have : pas = [] := List.length_eq_zero_iff.mp (by simpa using hl)
    subst this; rfl
  | succ n ih =>
    have hsplit : ∀ u : State, u.bytesAt pas = u.bytesAt (pas.take 128) ++ u.bytesAt (pas.drop 128) := fun u => by
      simp only [State.bytesAt, ← List.map_append, List.take_append_drop]
    have hd' := hd
    rw [← List.take_append_drop 128 pas, List.nodup_append] at hd'
    simp only [State.storeBlocks]
    rw [hsplit, ih _ _ _ hd'.2.1 (by simp [hl]) (by simp; omega)]
    have : (((s.store (pas.take 128) (bs.take 128)).storeBlocks n (pas.drop 128) (bs.drop 128)).bytesAt (pas.take 128)) =
        (s.store (pas.take 128) (bs.take 128)).bytesAt (pas.take 128) := by
      simp only [State.bytesAt]
      apply List.map_congr_left
      intro a ha
      exact State.get_storeBlocks_of_notMem _ _ _ _ _ fun hm => hd'.2.2 a ha a hm rfl
    rw [this, State.bytesAt_store _ _ _ hd'.1 (by simp [hl]), List.take_append_drop]

end Sys2Proof.Machine
end

