-- ==== Sys2Proof/Laws/Ops.lean ====
section
/-! SUPPORT. For each shared operation, what it does when it answers: the checks that passed and the state it leaves. -/

namespace Sys2Proof.Machine

/-! ### Outcomes -/

/-- A computation of two stages answers when both do. -/
theorem Result.bind_ok {α β : Type} {x : Except Trap α} {f : α → Except Trap β} {b : β} :
    (x >>= f) = .ok b ↔ ∃ a, x = .ok a ∧ f a = .ok b := by
  cases x with
  | ok a => exact ⟨fun h => ⟨a, rfl, h⟩, fun ⟨_, h, h'⟩ => by cases h; exact h'⟩
  | error e => exact ⟨fun h => by simp [bind, Except.bind] at h, fun ⟨_, h, _⟩ => by cases h⟩

/-- A check answers exactly where it holds. -/
@[simp] theorem require_ok {b : Bool} {e : Exc} {u : Unit} : require b e = .ok u ↔ b = true := by
  cases b <;> simp [require, raise]

/-- A validation answers exactly where there is no page fault. -/
@[simp] theorem paged_ok {α : Type} {x : Except PageFault α} {a : α} : paged x = .ok a ↔ x = .ok a := by
  cases x <;> simp [paged, raise]

/-- Validation in the current mode. -/
@[simp] theorem State.validate_ok {s : State} {kind : Access} {addr : Word} {n : Nat} {pas : List Nat} :
    s.validate kind addr n = .ok pas ↔ s.translateRange s.xm kind addr n = .ok pas := paged_ok

/-- Validation with supervisor rights. -/
@[simp] theorem State.validateSupervisor_ok {s : State} {kind : Access} {addr : Word} {n : Nat} {pas : List Nat} :
    s.validateSupervisor kind addr n = .ok pas ↔ s.translateRange false kind addr n = .ok pas := paged_ok

/-- An instruction that ends in a next state has computed it, or has taken an exception. -/
theorem finish_next {s t : State} {x : Result} :
    finish s x = .next t ↔ x = .ok t ∨ ∃ e, x = .error (.exc e) ∧ t = s.takeException e := by
  rcases x with e | u
  · cases e <;> simp [finish, eq_comm]
  · simp [finish]

/-! ### Operands -/

/-- A destination that opens is a register, or memory at translated addresses. -/
theorem State.openTarget_ok {s : State} {p : Place} {t : Target} (h : s.openTarget p = .ok t) :
    (∃ r z, p = .reg r z ∧ t = .reg r z) ∨
      ∃ addr z pas, p = .mem addr z ∧ s.translateRange s.xm .write addr z.bytes = .ok pas ∧ t = .mem pas := by
  cases p with
  | reg r z => simp only [State.openTarget, Except.ok.injEq] at h; exact .inl ⟨r, z, rfl, h.symm⟩
  | mem addr z =>
    obtain ⟨pas, hp, ht⟩ := Result.bind_ok.mp h
    simp only [Except.ok.injEq] at ht
    exact .inr ⟨addr, z, pas, rfl, State.validate_ok.mp hp, ht.symm⟩
  | imm v n => simp [State.openTarget, raise] at h

/-- A destination that opens is no immediate. -/
theorem State.isImm_of_openTarget {s : State} {p : Place} {t : Target} (h : s.openTarget p = .ok t) : p.isImm = false := by
  rcases State.openTarget_ok h with ⟨_, _, rfl, _⟩ | ⟨_, _, _, rfl, _⟩ <;> rfl

/-- The bits of a size are those of its bytes. -/
theorem Size.bits_eq (z : Size) : z.bits = 8 * z.bytes := by cases z <;> rfl

/-- Bytes make a value that fits them. -/
theorem leValue_lt (bs : List Byte) : leValue bs < 2 ^ (8 * bs.length) := by
  induction bs with
  | nil => simp [leValue]
  | cons b bs ih =>
    have hb := b.isLt
    simp only [leValue, List.length_cons, Nat.mul_add, pow_add]
    omega

/-- A value loaded from at most 8 bytes fits them. -/
theorem State.loadWord_lt (s : State) (pas : List Nat) : (s.loadWord pas).toNat < 2 ^ (8 * pas.length) := by
  simp only [State.loadWord, BitVec.toNat_ofNat]
  have := leValue_lt (s.bytesAt pas)
  simp only [State.bytesAt, List.length_map] at this
  exact lt_of_le_of_lt (Nat.mod_le _ _) this

/-- The value of a register operand fits its size. -/
theorem State.readRegister_lt {s : State} {nip : Word} {r : BitVec 8} {z : Size} {v : Word}
    (h : s.readRegister nip r z = .ok v) : v.toNat < 2 ^ z.bits := by
  unfold State.readRegister at h
  split at h
  · simp at h
  · simp only [Except.ok.injEq] at h; subst h; exact truncBits_lt _ _

/-- The value of an opened destination fits its operand. -/
theorem State.readTarget_lt {s : State} {nip : Word} {p : Place} {t : Target} {v : Word} (ho : s.openTarget p = .ok t)
    (h : s.readTarget nip t = .ok v) : v.toNat < 2 ^ p.bits := by
  rcases State.openTarget_ok ho with ⟨r, z, rfl, rfl⟩ | ⟨addr, z, pas, rfl, hp, rfl⟩
  · exact State.readRegister_lt h
  · simp only [State.readTarget, Except.ok.injEq] at h
    subst h
    have := State.loadWord_lt s pas
    rw [State.translateRange_length hp] at this
    rwa [Place.bits, Size.bits_eq]

/-- The value of an immediate fits its width. -/
theorem immZext_lt (i : SizedImm) : (immZext i).toNat < 2 ^ i.bits := by
  cases i with
  | i16 v => simp only [immZext, BitVec.toNat_setWidth, SizedImm.bits]; exact lt_of_le_of_lt (Nat.mod_le _ _) v.isLt
  | i32 v => simp only [immZext, BitVec.toNat_setWidth, SizedImm.bits]; exact lt_of_le_of_lt (Nat.mod_le _ _) v.isLt
  | i64 v => exact v.isLt

/-- The value of a source operand fits its width. -/
theorem State.readPlace_lt {s : State} {nip : Word} {o : Operand} {v : Word}
    (h : s.readPlace nip (s.place nip o) = .ok v) : v.toNat < 2 ^ (s.place nip o).bits := by
  have key : ∀ p : Place, (∀ w n, p = .imm w n → w.toNat < 2 ^ n) → s.readPlace nip p = .ok v → v.toNat < 2 ^ p.bits := by
    intro p hp h
    cases p with
    | reg r z => exact State.readRegister_lt h
    | mem addr z =>
      obtain ⟨pas, hq, hv⟩ := Result.bind_ok.mp h
      simp only [Except.ok.injEq] at hv
      subst hv
      have := State.loadWord_lt s pas
      rw [State.translateRange_length (State.validate_ok.mp hq)] at this
      rwa [Place.bits, Size.bits_eq]
    | imm w n => simp only [State.readPlace, Except.ok.injEq] at h; subst h; exact hp w n rfl
  refine key _ (fun w n hw => ?_) h
  cases o with
  | reg z r => simp [State.place] at hw
  | ind o sc k z base => simp [State.place] at hw
  | memRef rel z i => simp [State.place] at hw
  | short rel i =>
    cases rel
    · simp only [State.place, Bool.false_eq_true, if_false, Place.imm.injEq] at hw
      obtain ⟨rfl, rfl⟩ := hw
      simp only [BitVec.toNat_setWidth]
      exact lt_of_le_of_lt (Nat.mod_le _ _) i.isLt
    · simp only [State.place, if_true, Place.imm.injEq] at hw
      obtain ⟨rfl, rfl⟩ := hw
      exact BitVec.isLt _
  | long rel i =>
    cases rel
    · simp only [State.place, Bool.false_eq_true, if_false, Place.imm.injEq] at hw
      obtain ⟨rfl, rfl⟩ := hw
      exact immZext_lt i
    · simp only [State.place, if_true, Place.imm.injEq] at hw
      obtain ⟨rfl, rfl⟩ := hw
      exact BitVec.isLt _

/-- A write through an operand passes its check and replaces the destination. -/
theorem State.writeTarget_ok {s u : State} {t : Target} {v : Word} :
    s.writeTarget t v = .ok u ↔ s.checkTarget v t = .ok () ∧ u = s.setTarget v t := by
  simp only [State.writeTarget, Result.bind_ok, Except.ok.injEq]
  exact ⟨fun ⟨_, h, e⟩ => ⟨h, e.symm⟩, fun ⟨h, e⟩ => ⟨(), h, e.symm⟩⟩

/-- A destination that is not `flags` leaves the flags. -/
theorem State.setTarget_flags {s w : State} {p : Place} {t : Target} (v : Word) (h : w.openTarget p = .ok t)
    (h17 : p.isRegister 17 = false) : (s.setTarget v t).flags = s.flags := by
  rcases State.openTarget_ok h with ⟨r, z, rfl, rfl⟩ | ⟨addr, z, pas, rfl, _, rfl⟩
  · have hr : r.toNat ≠ 17 := fun e => by
      have : r = 17 := BitVec.eq_of_toNat_eq e
      simp [Place.isRegister, this] at h17
    simp only [State.setTarget, State.writeReg]
    split
    · rfl
    · split <;> first | rfl | contradiction | simp
  · rfl

/-! ### Registers -/

/-- What replacing `cr0` and `cr1` leaves: the two registers, and perhaps the page-cache history, the remembered mapping and
the recorded synchronizations. -/
theorem State.setPaging_eq (s : State) (c p : Word) :
    s.setPaging c p =
      { s with
        cr0 := c
        page := p
        codeView := (s.setPaging c p).codeView
        ptHistory := (s.setPaging c p).ptHistory
        syncOrder := (s.setPaging c p).syncOrder } := by
  unfold State.setPaging
  by_cases h : (s.pg != c.getLsbD 0 || s.page != p) = true
  · simp only [h, if_true]; rfl
  · simp only [h]; rfl

/-- What a register write leaves: it changes program and supervisor registers and what a paging change records. -/
theorem State.writeReg_eq (s : State) (r : BitVec 8) (v : Word) :
    s.writeReg r v =
      { s with
        gpr := (s.writeReg r v).gpr
        flags := (s.writeReg r v).flags
        cr0 := (s.writeReg r v).cr0
        page := (s.writeReg r v).page
        flprotect := (s.writeReg r v).flprotect
        scdp := (s.writeReg r v).scdp
        scsp := (s.writeReg r v).scsp
        sccr := (s.writeReg r v).sccr
        itabp := (s.writeReg r v).itabp
        ciread := (s.writeReg r v).ciread
        fcode := (s.writeReg r v).fcode
        pfcharp := (s.writeReg r v).pfcharp
        msr := (s.writeReg r v).msr
        codeView := (s.writeReg r v).codeView
        ptHistory := (s.writeReg r v).ptHistory
        syncOrder := (s.writeReg r v).syncOrder } := by
  by_cases h : r.toNat < 16
  · simp only [State.writeReg, h, dite_true]
  · simp only [State.writeReg, h, dite_false]
    split <;> first | rfl | (rw [State.setPaging_eq])

/-- The destination of a write is a general register, or leaves the general registers. -/
theorem State.writeReg_gpr (s : State) (r : BitVec 8) (v : Word) (h : 16 ≤ r.toNat) : (s.writeReg r v).gpr = s.gpr := by
  have h' : ¬r.toNat < 16 := by omega
  simp only [State.writeReg, h', dite_false]
  split <;> first | rfl | simp

/-! ### Control transfers -/

/-- The checks of a branch destination. -/
theorem State.checkDestination_ok {s : State} {xm : Bool} {d : Word} {u : Unit} :
    s.checkDestination xm d = .ok u ↔ s.branchAllowed xm d := by
  simp only [State.checkDestination, Result.bind_ok, require_ok, paged_ok, State.branchAllowed, Bool.not_eq_true']
  exact ⟨fun ⟨_, h, pas, hp, _⟩ => ⟨h, pas, hp⟩, fun ⟨h, pas, hp⟩ => ⟨(), h, pas, hp, trivial⟩⟩

/-- A taken branch. -/
theorem State.takeBranch_ok {s t : State} {d : Word} :
    s.takeBranch d = .ok t ↔ s.branchAllowed s.xm d ∧ t = s.jump d := by
  simp only [State.takeBranch, Result.bind_ok, State.checkDestination_ok, Except.ok.injEq]
  exact ⟨fun ⟨_, h, e⟩ => ⟨h, e.symm⟩, fun ⟨h, e⟩ => ⟨(), h, e.symm⟩⟩

/-- A push of a value. -/
theorem State.push_ok {s t : State} {v : Word} :
    s.push v = .ok t ↔ ∃ pas, s.translateRange s.xm .write (s.sp - 8) 8 = .ok pas ∧
      t = (s.store pas (leBytes 8 v.toNat)).setR 7 (s.sp - 8) := by
  simp only [State.push, Result.bind_ok, State.validate_ok, Except.ok.injEq]
  exact ⟨fun ⟨p, h, e⟩ => ⟨p, h, e.symm⟩, fun ⟨p, h, e⟩ => ⟨p, h, e.symm⟩⟩

/-- A call that pushes its return address. -/
theorem State.callTo_ok {s t : State} {d nip : Word} :
    s.callTo d nip = .ok t ↔ ∃ pas, s.translateRange s.xm .write (s.sp - 8) 8 = .ok pas ∧ s.branchAllowed s.xm d ∧
      t = ((s.jump d).store pas (leBytes 8 nip.toNat)).setR 7 (s.sp - 8) := by
  simp only [State.callTo, Result.bind_ok, State.validate_ok, State.checkDestination_ok, Except.ok.injEq]
  exact ⟨fun ⟨p, h, _, h', e⟩ => ⟨p, h, h', e.symm⟩, fun ⟨p, h, h', e⟩ => ⟨p, h, (), h', e.symm⟩⟩

/-- A call that keeps its return address in `r14`. -/
theorem State.fastCallTo_ok {s t : State} {d nip : Word} :
    s.fastCallTo d nip = .ok t ↔ s.branchAllowed s.xm d ∧ t = (s.jump d).setR 14 nip := by
  simp only [State.fastCallTo, Result.bind_ok, State.checkDestination_ok, Except.ok.injEq]
  exact ⟨fun ⟨_, h, e⟩ => ⟨h, e.symm⟩, fun ⟨h, e⟩ => ⟨(), h, e.symm⟩⟩

/-- A `mode` value with no undefined bit and XMM equal to XM is loaded as it is. -/
theorem State.loadedMode_legal (s : State) (m : Word) (h : m = 0 ∨ m = 3#64 <<< 32) : s.loadedMode m = m := by
  rcases h with rfl | rfl <;> simp [State.loadedMode]

/-! ### Delivery -/

/-- The entry sequence: the table entry is read, the frame is stored below the new stack pointer, and the handler's address
passes its checks. -/
theorem State.enter_ok {s t : State} {n : Nat} {frame : List Word} :
    s.enter n frame = .ok t ↔ ∃ e pas, s.tableEntry n = .ok e ∧
      s.translateRange false .write ((if e.stack = 0 then s.sp else e.stack) - 32) 32 = .ok pas ∧
      s.branchAllowed false e.handler ∧
      t = { ((s.jump e.handler).store pas (wordsBytes frame)).setR 7 ((if e.stack = 0 then s.sp else e.stack) - 32) with
            mode := supervisorMode s.mode, halted := false } := by
  unfold State.enter State.branchAllowed
  cases ht : s.tableEntry n with
  | error f => simp [bind, Except.bind]
  | ok e =>
    simp only [bind, Except.bind, Except.ok.injEq]
    constructor
    · intro h
      split at h
      · rename_i pas q hp he hd
        simp only [Except.ok.injEq] at h
        exact ⟨e, pas, rfl, hp, ⟨he, q, hd⟩, h.symm⟩
      · simp at h
    · rintro ⟨e', pas, rfl, hp, ⟨he, q, hd⟩, rfl⟩
      simp only [hp, he, hd]

/-- ABRT is entered, or the CPU is reset. -/
theorem State.deliverAbort_cases (s : State) :
    (∃ t, { s with fcode := 0 }.enter 0 s.abortFrame = .ok t ∧ s.deliverAbort = t) ∨ s.deliverAbort = s.cpuReset := by
  unfold State.deliverAbort
  cases h : { s with fcode := 0 }.enter 0 s.abortFrame with
  | ok t => exact .inl ⟨t, rfl, rfl⟩
  | error f => exact .inr rfl

/-- The delivery of an exception enters its handler, or resets the CPU, or delivers ABRT. -/
theorem State.deliverException_cases (s : State) (n : Nat) (sip : Word) :
    (∃ t, s.enter n (s.frame sip) = .ok t ∧ s.deliverException n sip = t) ∨
      s.deliverException n sip = s.cpuReset ∨ s.deliverException n sip = s.deliverAbort := by
  unfold State.deliverException
  cases h : s.enter n (s.frame sip) with
  | ok t => exact .inl ⟨t, rfl, rfl⟩
  | error f => cases f <;> simp

/-- The delivery of a number enters its handler, or resets the CPU, or delivers ABRT or PROT, or drops a Debug Trap. -/
theorem State.deliver_cases (s : State) (n : Nat) (sip : Word) :
    (∃ t, s.enter n (s.frame sip) = .ok t ∧ s.deliver n sip = t) ∨
      s.deliver n sip = s.cpuReset ∨ s.deliver n sip = s.deliverAbort ∨
      s.deliver n sip = { s with fcode := 0 }.deliverException 2 sip ∨ n = 16 ∧ s.deliver n sip = s.jump sip := by
  unfold State.deliver
  split
  · rcases s.deliverException_cases n sip with h | h | h
    · exact .inl h
    · exact .inr (.inl h)
    · exact .inr (.inr (.inl h))
  · cases h : s.enter n (s.frame sip) with
    | ok t => exact .inl ⟨t, rfl, rfl⟩
    | error f =>
      cases f
      · simp
      · simp
      · simp only
        split
        · rename_i h16; exact .inr (.inr (.inr (.inr ⟨h16, rfl⟩)))
        · simp

/-- A page fault is delivered after its record is stored, where there is one, or becomes ABRT. -/
theorem State.takePageFault_cases (s : State) (f : PageFault) :
    s.takePageFault f = { s with fcode := f.addr }.deliverException 3 s.ip ∨
      s.takePageFault f = { s with fcode := f.addr }.deliverAbort ∨
      ∃ pas, { s with fcode := f.addr }.translateRange false .write s.pfcharp 16 = .ok pas ∧
        s.takePageFault f = ({ s with fcode := f.addr }.store pas f.record).deliverException 3 s.ip := by
  unfold State.takePageFault
  simp only
  split
  · exact .inl rfl
  · split
    · exact .inr (.inl rfl)
    · split
      · rename_i pas hp; exact .inr (.inr ⟨pas, hp, rfl⟩)
      · exact .inr (.inl rfl)

/-- The return from an exception. -/
theorem State.returnFromException_ok {s t : State} :
    s.returnFromException = .ok t ↔ ∃ pas, s.translateRange s.xm .read s.sp 32 = .ok pas ∧
      s.branchAllowed ((s.loadSlot pas 1).getLsbD 32) (s.loadSlot pas 0) ∧
      t = { (s.jump (s.loadSlot pas 0)).setR 7 (s.loadSlot pas 3) with
            flags := s.loadSlot pas 2 &&& flagsMask, mode := s.loadedMode (s.loadSlot pas 1) } := by
  simp only [State.returnFromException, Result.bind_ok, State.validate_ok, State.checkDestination_ok, Except.ok.injEq]
  exact ⟨fun ⟨p, h, _, h', e⟩ => ⟨p, h, h', e.symm⟩, fun ⟨p, h, h', e⟩ => ⟨p, h, (), h', e.symm⟩⟩

/-! ### Whole instructions of one shape -/

/-- A two-operand arithmetic instruction whose checks pass. -/
theorem alu2_of_ready {s : State} {l : Bool} {a b : Operand} {x y : Word} {t : Target} (h : s.AluReady l a b x y t)
    (f : Word → Word → Word) (fl : Word → Word → Word → Nat → Word) (nf : Bool)
    (hc : s.checkTarget (truncBits (s.place (s.nip2 a b) a).bits (f x y)) t = .ok ()) :
    alu2 f fl l nf a b s =
      .ok { s.setTarget (truncBits (s.place (s.nip2 a b) a).bits (f x y)) t with
            flags := if nf then s.flags else fl s.flags x y (s.place (s.nip2 a b) a).bits, ip := s.nip2 a b } := by
  have hi := State.isImm_of_openTarget h.target
  have hf := State.setTarget_flags (s := s) (truncBits (s.place (s.nip2 a b) a).bits (f x y)) h.target h.notFlags
  obtain ⟨h1, h2, h3, h4, h5, h6, h7, h8⟩ := h
  have hk : checkAluOperands l (s.place (s.nip2 a b) a) (s.place (s.nip2 a b) b) = .ok () := by
    simp only [checkAluOperands, require, hi, h4, h5, bind, Except.bind]
    rcases h2 with h2 | h2 | h2 <;> cases l <;> simp_all
  simp only [State.nip2] at *
  simp only [alu2, h1, hk, h6, h7, h8, bind, Except.bind, State.writeTarget, hc]
  cases nf
  · rfl
  · simp only [State.advance, ← hf]; rfl

/-- An instruction whose second source is a general register and whose checks pass. -/
theorem aluFromGpr_of_ready {s : State} {a : Operand} {x : Word} {t : Target} (h : s.TargetReady a x t)
    (f : Word → Word → Word) (fl : Word → Word → Word → Nat → Word) (r : BitVec 4)
    (hc : s.checkTarget (truncBits (s.place (s.nip1 a) a).bits (f x (s.r r))) t = .ok ()) :
    aluFromGpr f fl r a s =
      .ok { s.setTarget (truncBits (s.place (s.nip1 a) a).bits (f x (s.r r))) t with
            flags := fl s.flags x (s.r r) (s.place (s.nip1 a) a).bits, ip := s.nip1 a } := by
  have hi := State.isImm_of_openTarget h.target
  obtain ⟨h1, h4, h5, h7, h8⟩ := h
  simp only [State.nip1] at *
  simp only [aluFromGpr, h1, h4, h5, hi, require, h7, h8, bind, Except.bind, State.writeTarget, hc]
  rfl

/-- An instruction whose destination is a general register and whose source is read. -/
theorem aluToGpr_of_read {s : State} {a : Operand} {y : Word} (h1 : s.checkOperands [a] = .ok ())
    (h2 : s.readPlace (s.nip1 a) (s.place (s.nip1 a) a) = .ok y) (f : Word → Word → Word)
    (fl : Word → Word → Word → Nat → Word) (r : BitVec 4) :
    aluToGpr f fl r a s =
      .ok { s.setR r (f (s.r r) y) with flags := fl s.flags (s.r r) y 64, ip := s.nip1 a } := by
  simp only [State.nip1] at *
  simp only [aluToGpr, h1, h2, bind, Except.bind]
  rfl

/-- A shift or rotate whose checks pass. -/
theorem shift2_of_ready {s : State} {l : Bool} {a b : Operand} {x y : Word} {t : Target} (h : s.AluReady l a b x y t)
    (g : Nat → Word → Word → Word × Bool) (nf : Bool)
    (hc : s.checkTarget (g (s.place (s.nip2 a b) a).bits x y).1 t = .ok ()) :
    shift2 g l nf a b s =
      .ok { s.setTarget (g (s.place (s.nip2 a b) a).bits x y).1 t with
            flags :=
              if nf then s.flags
              else shiftFlags s.flags (g (s.place (s.nip2 a b) a).bits x y) (s.place (s.nip2 a b) a).bits y
            ip := s.nip2 a b } := by
  have hi := State.isImm_of_openTarget h.target
  have hf := State.setTarget_flags (s := s) (g (s.place (s.nip2 a b) a).bits x y).1 h.target h.notFlags
  obtain ⟨h1, h2, h3, h4, h5, h6, h7, h8⟩ := h
  have hk : checkAluOperands l (s.place (s.nip2 a b) a) (s.place (s.nip2 a b) b) = .ok () := by
    simp only [checkAluOperands, require, hi, h4, h5, bind, Except.bind]
    rcases h2 with h2 | h2 | h2 <;> cases l <;> simp_all
  simp only [State.nip2] at *
  simp only [shift2, h1, hk, h6, h7, h8, bind, Except.bind, State.writeTarget, hc]
  cases nf
  · rfl
  · simp only [State.advance, ← hf]; rfl

/-! ### Mode and the start of a CPU -/

/-- A bit that is clear in a loaded `mode` value, above bit 31, is clear in the mode it becomes, where XM and XMM are clear
(10_state.md R42). -/
theorem State.loadedMode_high {s : State} {v : Word} (h : v.getLsbD 32 = false) (h' : v.getLsbD 33 = false) {i : Nat}
    (hv : v.getLsbD i = false) : (s.loadedMode v).getLsbD i = false := by
  simp only [State.loadedMode, h, h', if_true]
  split <;> simp [hv]

/-- In program mode the upper half of `mode` is kept, whatever it and the loaded value are (10_state.md R42). -/
theorem State.restoreMode_upper {s : State} (v : Word) (h : s.xm = true) : s.restoreMode v >>> 32 = s.mode >>> 32 := by
  have low : ∀ i, 32 ≤ i → i < 64 → (v &&& 0xFFFFFFFF).getLsbD i = false := by
    intro i hi hi'
    have : (0xFFFFFFFF : Word).getLsbD i = false := by interval_cases i <;> rfl
    simp only [BitVec.getLsbD_and, this, Bool.and_false]
  apply BitVec.eq_of_getLsbD_eq
  intro i hi
  simp only [State.restoreMode, h, if_true, BitVec.getLsbD_ushiftRight, BitVec.getLsbD_or]
  by_cases hb : 32 + i < 64
  · rw [State.loadedMode_high (low 32 (by omega) (by omega)) (low 33 (by omega) (by omega)) (low _ (by omega) hb)]
    have : (0xFFFFFFFF#64 <<< 32 : Word).getLsbD (32 + i) = true := by
      have : i < 32 := by omega
      interval_cases i <;> rfl
    simp only [BitVec.getLsbD_and, this, Bool.and_true, Bool.or_false]
  · rw [BitVec.getLsbD_of_ge _ _ (by omega), BitVec.getLsbD_of_ge _ _ (by omega), BitVec.getLsbD_of_ge _ _ (by omega)]
    rfl

/-- A CPU that starts has a valid start-up block, whose 256 slots it loads (60_exceptions.md R530). -/
theorem State.startUpRegisters_ok {s : State} {n : Fin 128} {regs : List Word} (h : s.startUpRegisters n = .ok regs) :
    let slot := s.loadSlot ((List.range 2048).map (s.loadPointer[n].toNat + ·))
    s.physCheckRange s.loadPointer[n].toNat 2048 = .valid ∧ regs = (List.range 256).map slot ∧
      (∀ i < 256, startUpReserved i = true → slot i = 0) ∧ startUpValid n.val slot = true := by
  intro slot
  simp only [State.startUpRegisters] at h
  split at h
  next hp =>
    split at h
    · simp at h
    · split at h
      next hr hv =>
        refine ⟨hp, (Except.ok.inj h).symm, fun i hi hs => ?_, hv⟩
        by_contra hne
        exact hr (List.any_eq_true.mpr ⟨i, List.mem_range.mpr hi, by rw [hs, Bool.true_and]; exact bne_iff_ne.mpr hne⟩)
      · simp at h
  · simp at h

end Sys2Proof.Machine
end

