-- ==== Sys2Proof/Laws/PerInstr.lean ====
section
/-! SUPPORT. Every instruction is encoded in as many bytes as its length says (30_encoding.md R172). -/

namespace Sys2Proof.Laws.EncodedLength

/-- The encoding of an instruction has the length of the instruction. -/
def Statement (i : Instr) : Prop := (encode i).length = i.length

/-- A size of an immediate in bytes is the number of its bytes. -/
theorem immediate_length (d : SizedImm) : d.toBytes.length = d.bytes := by cases d <;> rfl

/-- An operand is encoded in as many bytes as its length says. -/
theorem operand_length (o : Operand) : o.encode.length = o.length := by
  cases o <;> simp [Operand.encode, Operand.length, unitBytes, immediate_length] <;> omega

/-- The lengths of a list of operands add up. -/
theorem operands_length (os : List Operand) (n : Nat) :
    os.foldl (fun n o => n + o.length) n = n + (os.flatMap Operand.encode).length := by
  induction os generalizing n with
  | nil => rfl
  | cons o os ih =>
    simp only [List.foldl_cons, ih, List.flatMap_cons, List.length_append, operand_length]
    omega

/-- The statement, for any instruction. -/
theorem every (i : Instr) : Statement i := by
  unfold Statement encode Instr.length
  split <;> simp [unitBytes, immediate_length, operands_length] <;> omega

theorem und000 (h : BitVec 4) : Statement (.und000 h) := every _
theorem add (l : Bool) (f : Bool) (a : Operand) (b : Operand) : Statement (.add l f a b) := every _
theorem sub (l : Bool) (f : Bool) (a : Operand) (b : Operand) : Statement (.sub l f a b) := every _
theorem and (l : Bool) (f : Bool) (a : Operand) (b : Operand) : Statement (.and l f a b) := every _
theorem or (l : Bool) (f : Bool) (a : Operand) (b : Operand) : Statement (.or l f a b) := every _
theorem xor (l : Bool) (f : Bool) (a : Operand) (b : Operand) : Statement (.xor l f a b) := every _
theorem mul (sz : Size) (f : Bool) : Statement (.mul sz f) := every _
theorem div (sz : Size) (w : Bool) (f : Bool) : Statement (.div sz w f) := every _
theorem mov (a : Operand) (b : Operand) : Statement (.mov a b) := every _
theorem lea (a : Operand) (b : Operand) : Statement (.lea a b) := every _
theorem movTogpr (r : BitVec 4) (a : Operand) : Statement (.movTogpr r a) := every _
theorem movFromgpr (r : BitVec 4) (a : Operand) : Statement (.movFromgpr r a) := every _
theorem leaTogpr (r : BitVec 4) (a : Operand) : Statement (.leaTogpr r a) := every _
theorem nop : Statement (.nop) := every _
theorem nop1 (a : Operand) : Statement (.nop1 a) := every _
theorem nop2 (a : Operand) (b : Operand) : Statement (.nop2 a b) := every _
theorem nop3 (a : Operand) (b : Operand) (c : Operand) : Statement (.nop3 a b c) := every _
theorem push (a : Operand) : Statement (.push a) := every _
theorem pop (a : Operand) : Statement (.pop a) := every _
theorem pushReg (r : BitVec 4) : Statement (.pushReg r) := every _
theorem popReg (r : BitVec 4) : Statement (.popReg r) := every _
theorem stogpr (a : Operand) : Statement (.stogpr a) := every _
theorem stoar (a : Operand) : Statement (.stoar a) := every _
theorem rstogpr (a : Operand) : Statement (.rstogpr a) := every _
theorem rstoar (a : Operand) : Statement (.rstoar a) := every _
theorem pushgpr : Statement (.pushgpr) := every _
theorem pushar : Statement (.pushar) := every _
theorem popgpr : Statement (.popgpr) := every _
theorem popar : Statement (.popar) := every _
theorem movsx (f : Bool) (a : Operand) (b : Operand) : Statement (.movsx f a b) := every _
theorem bswap (f : Bool) (a : Operand) (b : Operand) : Statement (.bswap f a b) := every _
theorem lsh (l : Bool) (f : Bool) (a : Operand) (b : Operand) : Statement (.lsh l f a b) := every _
theorem rsh (l : Bool) (f : Bool) (a : Operand) (b : Operand) : Statement (.rsh l f a b) := every _
theorem arsh (l : Bool) (f : Bool) (a : Operand) (b : Operand) : Statement (.arsh l f a b) := every _
theorem lshc (l : Bool) (f : Bool) (a : Operand) (b : Operand) : Statement (.lshc l f a b) := every _
theorem rshc (l : Bool) (f : Bool) (a : Operand) (b : Operand) : Statement (.rshc l f a b) := every _
theorem lrot (l : Bool) (f : Bool) (a : Operand) (b : Operand) : Statement (.lrot l f a b) := every _
theorem rrot (l : Bool) (f : Bool) (a : Operand) (b : Operand) : Statement (.rrot l f a b) := every _
theorem lshGpr (r : BitVec 4) (a : Operand) : Statement (.lshGpr r a) := every _
theorem rshGpr (r : BitVec 4) (a : Operand) : Statement (.rshGpr r a) := every _
theorem arshGpr (r : BitVec 4) (a : Operand) : Statement (.arshGpr r a) := every _
theorem lshcGpr (r : BitVec 4) (a : Operand) : Statement (.lshcGpr r a) := every _
theorem rshcGpr (r : BitVec 4) (a : Operand) : Statement (.rshcGpr r a) := every _
theorem lrotGpr (r : BitVec 4) (a : Operand) : Statement (.lrotGpr r a) := every _
theorem rrotGpr (r : BitVec 4) (a : Operand) : Statement (.rrotGpr r a) := every _
theorem imul (sz : Size) (f : Bool) : Statement (.imul sz f) := every _
theorem addTogpr (r : BitVec 4) (a : Operand) : Statement (.addTogpr r a) := every _
theorem subTogpr (r : BitVec 4) (a : Operand) : Statement (.subTogpr r a) := every _
theorem andTogpr (r : BitVec 4) (a : Operand) : Statement (.andTogpr r a) := every _
theorem orTogpr (r : BitVec 4) (a : Operand) : Statement (.orTogpr r a) := every _
theorem xorTogpr (r : BitVec 4) (a : Operand) : Statement (.xorTogpr r a) := every _
theorem bnot (l : Bool) (f : Bool) (a : Operand) : Statement (.bnot l f a) := every _
theorem neg (l : Bool) (f : Bool) (a : Operand) : Statement (.neg l f a) := every _
theorem idiv (sz : Size) (w : Bool) (f : Bool) : Statement (.idiv sz w f) := every _
theorem addFromgpr (r : BitVec 4) (a : Operand) : Statement (.addFromgpr r a) := every _
theorem subFromgpr (r : BitVec 4) (a : Operand) : Statement (.subFromgpr r a) := every _
theorem andFromgpr (r : BitVec 4) (a : Operand) : Statement (.andFromgpr r a) := every _
theorem orFromgpr (r : BitVec 4) (a : Operand) : Statement (.orFromgpr r a) := every _
theorem xorFromgpr (r : BitVec 4) (a : Operand) : Statement (.xorFromgpr r a) := every _
theorem bnotGpr (r : BitVec 4) : Statement (.bnotGpr r) := every _
theorem negGpr (r : BitVec 4) : Statement (.negGpr r) := every _
theorem cmovt (cc : Cond) (a : Operand) (b : Operand) (c : Operand) : Statement (.cmovt cc a b c) := every _
theorem cmov (cc : Cond) (a : Operand) (b : Operand) : Statement (.cmov cc a b) := every _
theorem cmp (a : Operand) (b : Operand) : Statement (.cmp a b) := every _
theorem test (a : Operand) (b : Operand) : Statement (.test a b) := every _
theorem cmpGpr (r : BitVec 4) (a : Operand) : Statement (.cmpGpr r a) := every _
theorem testGpr (r : BitVec 4) (a : Operand) : Statement (.testGpr r a) := every _
theorem xchg (a : Operand) (b : Operand) : Statement (.xchg a b) := every _
theorem cmpxchg (a : Operand) (b : Operand) (c : Operand) : Statement (.cmpxchg a b c) := every _
theorem wcmpxchg (a : Operand) (b : Operand) (c : Operand) : Statement (.wcmpxchg a b c) := every _
theorem fence : Statement (.fence) := every _
theorem jpAbs16 (w : BitVec 4) (d : BitVec 16) : Statement (.jpAbs16 w d) := every _
theorem jcAbs16 (w : BitVec 4) (d : BitVec 16) : Statement (.jcAbs16 w d) := every _
theorem jvAbs16 (w : BitVec 4) (d : BitVec 16) : Statement (.jvAbs16 w d) := every _
theorem jzAbs16 (w : BitVec 4) (d : BitVec 16) : Statement (.jzAbs16 w d) := every _
theorem jltAbs16 (w : BitVec 4) (d : BitVec 16) : Statement (.jltAbs16 w d) := every _
theorem jleAbs16 (w : BitVec 4) (d : BitVec 16) : Statement (.jleAbs16 w d) := every _
theorem jbeAbs16 (w : BitVec 4) (d : BitVec 16) : Statement (.jbeAbs16 w d) := every _
theorem jmiAbs16 (w : BitVec 4) (d : BitVec 16) : Statement (.jmiAbs16 w d) := every _
theorem jplAbs16 (w : BitVec 4) (d : BitVec 16) : Statement (.jplAbs16 w d) := every _
theorem jaAbs16 (w : BitVec 4) (d : BitVec 16) : Statement (.jaAbs16 w d) := every _
theorem jgtAbs16 (w : BitVec 4) (d : BitVec 16) : Statement (.jgtAbs16 w d) := every _
theorem jgeAbs16 (w : BitVec 4) (d : BitVec 16) : Statement (.jgeAbs16 w d) := every _
theorem jnzAbs16 (w : BitVec 4) (d : BitVec 16) : Statement (.jnzAbs16 w d) := every _
theorem jnvAbs16 (w : BitVec 4) (d : BitVec 16) : Statement (.jnvAbs16 w d) := every _
theorem jncAbs16 (w : BitVec 4) (d : BitVec 16) : Statement (.jncAbs16 w d) := every _
theorem jnpAbs16 (w : BitVec 4) (d : BitVec 16) : Statement (.jnpAbs16 w d) := every _
theorem jpRel16 (w : BitVec 4) (d : BitVec 16) : Statement (.jpRel16 w d) := every _
theorem jcRel16 (w : BitVec 4) (d : BitVec 16) : Statement (.jcRel16 w d) := every _
theorem jvRel16 (w : BitVec 4) (d : BitVec 16) : Statement (.jvRel16 w d) := every _
theorem jzRel16 (w : BitVec 4) (d : BitVec 16) : Statement (.jzRel16 w d) := every _
theorem jltRel16 (w : BitVec 4) (d : BitVec 16) : Statement (.jltRel16 w d) := every _
theorem jleRel16 (w : BitVec 4) (d : BitVec 16) : Statement (.jleRel16 w d) := every _
theorem jbeRel16 (w : BitVec 4) (d : BitVec 16) : Statement (.jbeRel16 w d) := every _
theorem jmiRel16 (w : BitVec 4) (d : BitVec 16) : Statement (.jmiRel16 w d) := every _
theorem jplRel16 (w : BitVec 4) (d : BitVec 16) : Statement (.jplRel16 w d) := every _
theorem jaRel16 (w : BitVec 4) (d : BitVec 16) : Statement (.jaRel16 w d) := every _
theorem jgtRel16 (w : BitVec 4) (d : BitVec 16) : Statement (.jgtRel16 w d) := every _
theorem jgeRel16 (w : BitVec 4) (d : BitVec 16) : Statement (.jgeRel16 w d) := every _
theorem jnzRel16 (w : BitVec 4) (d : BitVec 16) : Statement (.jnzRel16 w d) := every _
theorem jnvRel16 (w : BitVec 4) (d : BitVec 16) : Statement (.jnvRel16 w d) := every _
theorem jncRel16 (w : BitVec 4) (d : BitVec 16) : Statement (.jncRel16 w d) := every _
theorem jnpRel16 (w : BitVec 4) (d : BitVec 16) : Statement (.jnpRel16 w d) := every _
theorem jpAbs32 (w : BitVec 4) (d : BitVec 32) : Statement (.jpAbs32 w d) := every _
theorem jcAbs32 (w : BitVec 4) (d : BitVec 32) : Statement (.jcAbs32 w d) := every _
theorem jvAbs32 (w : BitVec 4) (d : BitVec 32) : Statement (.jvAbs32 w d) := every _
theorem jzAbs32 (w : BitVec 4) (d : BitVec 32) : Statement (.jzAbs32 w d) := every _
theorem jltAbs32 (w : BitVec 4) (d : BitVec 32) : Statement (.jltAbs32 w d) := every _
theorem jleAbs32 (w : BitVec 4) (d : BitVec 32) : Statement (.jleAbs32 w d) := every _
theorem jbeAbs32 (w : BitVec 4) (d : BitVec 32) : Statement (.jbeAbs32 w d) := every _
theorem jmiAbs32 (w : BitVec 4) (d : BitVec 32) : Statement (.jmiAbs32 w d) := every _
theorem jplAbs32 (w : BitVec 4) (d : BitVec 32) : Statement (.jplAbs32 w d) := every _
theorem jaAbs32 (w : BitVec 4) (d : BitVec 32) : Statement (.jaAbs32 w d) := every _
theorem jgtAbs32 (w : BitVec 4) (d : BitVec 32) : Statement (.jgtAbs32 w d) := every _
theorem jgeAbs32 (w : BitVec 4) (d : BitVec 32) : Statement (.jgeAbs32 w d) := every _
theorem jnzAbs32 (w : BitVec 4) (d : BitVec 32) : Statement (.jnzAbs32 w d) := every _
theorem jnvAbs32 (w : BitVec 4) (d : BitVec 32) : Statement (.jnvAbs32 w d) := every _
theorem jncAbs32 (w : BitVec 4) (d : BitVec 32) : Statement (.jncAbs32 w d) := every _
theorem jnpAbs32 (w : BitVec 4) (d : BitVec 32) : Statement (.jnpAbs32 w d) := every _
theorem jpRel32 (w : BitVec 4) (d : BitVec 32) : Statement (.jpRel32 w d) := every _
theorem jcRel32 (w : BitVec 4) (d : BitVec 32) : Statement (.jcRel32 w d) := every _
theorem jvRel32 (w : BitVec 4) (d : BitVec 32) : Statement (.jvRel32 w d) := every _
theorem jzRel32 (w : BitVec 4) (d : BitVec 32) : Statement (.jzRel32 w d) := every _
theorem jltRel32 (w : BitVec 4) (d : BitVec 32) : Statement (.jltRel32 w d) := every _
theorem jleRel32 (w : BitVec 4) (d : BitVec 32) : Statement (.jleRel32 w d) := every _
theorem jbeRel32 (w : BitVec 4) (d : BitVec 32) : Statement (.jbeRel32 w d) := every _
theorem jmiRel32 (w : BitVec 4) (d : BitVec 32) : Statement (.jmiRel32 w d) := every _
theorem jplRel32 (w : BitVec 4) (d : BitVec 32) : Statement (.jplRel32 w d) := every _
theorem jaRel32 (w : BitVec 4) (d : BitVec 32) : Statement (.jaRel32 w d) := every _
theorem jgtRel32 (w : BitVec 4) (d : BitVec 32) : Statement (.jgtRel32 w d) := every _
theorem jgeRel32 (w : BitVec 4) (d : BitVec 32) : Statement (.jgeRel32 w d) := every _
theorem jnzRel32 (w : BitVec 4) (d : BitVec 32) : Statement (.jnzRel32 w d) := every _
theorem jnvRel32 (w : BitVec 4) (d : BitVec 32) : Statement (.jnvRel32 w d) := every _
theorem jncRel32 (w : BitVec 4) (d : BitVec 32) : Statement (.jncRel32 w d) := every _
theorem jnpRel32 (w : BitVec 4) (d : BitVec 32) : Statement (.jnpRel32 w d) := every _
theorem jpAbs64 (w : BitVec 4) (d : BitVec 64) : Statement (.jpAbs64 w d) := every _
theorem jcAbs64 (w : BitVec 4) (d : BitVec 64) : Statement (.jcAbs64 w d) := every _
theorem jvAbs64 (w : BitVec 4) (d : BitVec 64) : Statement (.jvAbs64 w d) := every _
theorem jzAbs64 (w : BitVec 4) (d : BitVec 64) : Statement (.jzAbs64 w d) := every _
theorem jltAbs64 (w : BitVec 4) (d : BitVec 64) : Statement (.jltAbs64 w d) := every _
theorem jleAbs64 (w : BitVec 4) (d : BitVec 64) : Statement (.jleAbs64 w d) := every _
theorem jbeAbs64 (w : BitVec 4) (d : BitVec 64) : Statement (.jbeAbs64 w d) := every _
theorem jmiAbs64 (w : BitVec 4) (d : BitVec 64) : Statement (.jmiAbs64 w d) := every _
theorem jplAbs64 (w : BitVec 4) (d : BitVec 64) : Statement (.jplAbs64 w d) := every _
theorem jaAbs64 (w : BitVec 4) (d : BitVec 64) : Statement (.jaAbs64 w d) := every _
theorem jgtAbs64 (w : BitVec 4) (d : BitVec 64) : Statement (.jgtAbs64 w d) := every _
theorem jgeAbs64 (w : BitVec 4) (d : BitVec 64) : Statement (.jgeAbs64 w d) := every _
theorem jnzAbs64 (w : BitVec 4) (d : BitVec 64) : Statement (.jnzAbs64 w d) := every _
theorem jnvAbs64 (w : BitVec 4) (d : BitVec 64) : Statement (.jnvAbs64 w d) := every _
theorem jncAbs64 (w : BitVec 4) (d : BitVec 64) : Statement (.jncAbs64 w d) := every _
theorem jnpAbs64 (w : BitVec 4) (d : BitVec 64) : Statement (.jnpAbs64 w d) := every _
theorem jpRel64 (w : BitVec 4) (d : BitVec 64) : Statement (.jpRel64 w d) := every _
theorem jcRel64 (w : BitVec 4) (d : BitVec 64) : Statement (.jcRel64 w d) := every _
theorem jvRel64 (w : BitVec 4) (d : BitVec 64) : Statement (.jvRel64 w d) := every _
theorem jzRel64 (w : BitVec 4) (d : BitVec 64) : Statement (.jzRel64 w d) := every _
theorem jltRel64 (w : BitVec 4) (d : BitVec 64) : Statement (.jltRel64 w d) := every _
theorem jleRel64 (w : BitVec 4) (d : BitVec 64) : Statement (.jleRel64 w d) := every _
theorem jbeRel64 (w : BitVec 4) (d : BitVec 64) : Statement (.jbeRel64 w d) := every _
theorem jmiRel64 (w : BitVec 4) (d : BitVec 64) : Statement (.jmiRel64 w d) := every _
theorem jplRel64 (w : BitVec 4) (d : BitVec 64) : Statement (.jplRel64 w d) := every _
theorem jaRel64 (w : BitVec 4) (d : BitVec 64) : Statement (.jaRel64 w d) := every _
theorem jgtRel64 (w : BitVec 4) (d : BitVec 64) : Statement (.jgtRel64 w d) := every _
theorem jgeRel64 (w : BitVec 4) (d : BitVec 64) : Statement (.jgeRel64 w d) := every _
theorem jnzRel64 (w : BitVec 4) (d : BitVec 64) : Statement (.jnzRel64 w d) := every _
theorem jnvRel64 (w : BitVec 4) (d : BitVec 64) : Statement (.jnvRel64 w d) := every _
theorem jncRel64 (w : BitVec 4) (d : BitVec 64) : Statement (.jncRel64 w d) := every _
theorem jnpRel64 (w : BitVec 4) (d : BitVec 64) : Statement (.jnpRel64 w d) := every _
theorem jmpAbs (d : SizedImm) : Statement (.jmpAbs d) := every _
theorem callAbs (d : SizedImm) : Statement (.callAbs d) := every _
theorem fcallAbs (d : SizedImm) : Statement (.fcallAbs d) := every _
theorem ret : Statement (.ret) := every _
theorem scall : Statement (.scall) := every _
theorem int (i : BitVec 4) : Statement (.int i) := every _
theorem ijmpAbs (r : BitVec 4) : Statement (.ijmpAbs r) := every _
theorem fretAbs : Statement (.fretAbs) := every _
theorem ifjmpAbs : Statement (.ifjmpAbs) := every _
theorem icallAbs (r : BitVec 4) : Statement (.icallAbs r) := every _
theorem ifcallAbs : Statement (.ifcallAbs) := every _
theorem jsmAbs (d : SizedImm) : Statement (.jsmAbs d) := every _
theorem callsmAbs (v : Bool) (d : SizedImm) : Statement (.callsmAbs v d) := every _
theorem retrsm : Statement (.retrsm) := every _
theorem jmpRel (d : SizedImm) : Statement (.jmpRel d) := every _
theorem callRel (d : SizedImm) : Statement (.callRel d) := every _
theorem fcallRel (d : SizedImm) : Statement (.fcallRel d) := every _
theorem ijmpRel (r : BitVec 4) : Statement (.ijmpRel r) := every _
theorem fretRel : Statement (.fretRel) := every _
theorem ifjmpRel : Statement (.ifjmpRel) := every _
theorem icallRel (r : BitVec 4) : Statement (.icallRel r) := every _
theorem ifcallRel : Statement (.ifcallRel) := every _
theorem jsmRel (d : SizedImm) : Statement (.jsmRel d) := every _
theorem callsmRel (v : Bool) (d : SizedImm) : Statement (.callsmRel v d) := every _
theorem halt : Statement (.halt) := every _
theorem pcfl : Statement (.pcfl) := every _
theorem flall : Statement (.flall) := every _
theorem dflush (a : Operand) : Statement (.dflush a) := every _
theorem iflush (a : Operand) : Statement (.iflush a) := every _
theorem ioIn (sz : Size) : Statement (.ioIn sz) := every _
theorem ioOut (sz : Size) : Statement (.ioOut sz) := every _
theorem storegf (a : Operand) : Statement (.storegf a) := every _
theorem rstregf (a : Operand) : Statement (.rstregf a) := every _
theorem scret : Statement (.scret) := every _
theorem reti : Statement (.reti) := every _
theorem machineFe0 (h : BitVec 4) : Statement (.machineFe0 h) := every _
theorem machineFe1 (h : BitVec 4) : Statement (.machineFe1 h) := every _
theorem machineFe2 (h : BitVec 4) : Statement (.machineFe2 h) := every _
theorem machineFe3 (h : BitVec 4) : Statement (.machineFe3 h) := every _
theorem machineFe4 (h : BitVec 4) : Statement (.machineFe4 h) := every _
theorem machineFe5 (h : BitVec 4) : Statement (.machineFe5 h) := every _
theorem machineFe6 (h : BitVec 4) : Statement (.machineFe6 h) := every _
theorem machineFe7 (h : BitVec 4) : Statement (.machineFe7 h) := every _
theorem machineFe8 (h : BitVec 4) : Statement (.machineFe8 h) := every _
theorem machineFe9 (h : BitVec 4) : Statement (.machineFe9 h) := every _
theorem machineFea (h : BitVec 4) : Statement (.machineFea h) := every _
theorem machineFeb (h : BitVec 4) : Statement (.machineFeb h) := every _
theorem machineFec (h : BitVec 4) : Statement (.machineFec h) := every _
theorem machineFed (h : BitVec 4) : Statement (.machineFed h) := every _
theorem machineFee (h : BitVec 4) : Statement (.machineFee h) := every _
theorem machineFef (h : BitVec 4) : Statement (.machineFef h) := every _
theorem machineFf0 (h : BitVec 4) : Statement (.machineFf0 h) := every _
theorem machineFf1 (h : BitVec 4) : Statement (.machineFf1 h) := every _
theorem machineFf2 (h : BitVec 4) : Statement (.machineFf2 h) := every _
theorem machineFf3 (h : BitVec 4) : Statement (.machineFf3 h) := every _
theorem machineFf4 (h : BitVec 4) : Statement (.machineFf4 h) := every _
theorem machineFf5 (h : BitVec 4) : Statement (.machineFf5 h) := every _
theorem machineFf6 (h : BitVec 4) : Statement (.machineFf6 h) := every _
theorem machineFf7 (h : BitVec 4) : Statement (.machineFf7 h) := every _
theorem machineFf8 (h : BitVec 4) : Statement (.machineFf8 h) := every _
theorem machineFf9 (h : BitVec 4) : Statement (.machineFf9 h) := every _
theorem machineFfa (h : BitVec 4) : Statement (.machineFfa h) := every _
theorem machineFfb (h : BitVec 4) : Statement (.machineFfb h) := every _
theorem machineFfc (h : BitVec 4) : Statement (.machineFfc h) := every _
theorem machineFfd (h : BitVec 4) : Statement (.machineFfd h) := every _
theorem machineFfe (h : BitVec 4) : Statement (.machineFfe h) := every _
theorem undFFF (h : BitVec 4) : Statement (.undFFF h) := every _

end Sys2Proof.Laws.EncodedLength
end

