-- ==== Sys2Proof/Tests/Slice0.lean ====
section
/-! SUPPORT. Tests of the model: ill-formed terms refused, words written out from the encodings decoded, vectors of
spec/95_test_vectors.md (the name of a test ends in its vector), and a witness for the hypotheses of each statement. -/

namespace Sys2Proof.Machine.Tests

open Sys2Proof Sys2Proof.Machine

set_option Elab.async false

/-! ### Well-formed terms -/

theorem test_wf_ijmp_abs_r14_refused : Instr.wellFormed (.ijmpAbs 14) = false := by decide
theorem test_wf_ijmp_abs_r15_refused : Instr.wellFormed (.ijmpAbs 15) = false := by decide
theorem test_wf_ijmp_rel_r14_refused : Instr.wellFormed (.ijmpRel 14) = false := by decide
theorem test_wf_ijmp_rel_r15_refused : Instr.wellFormed (.ijmpRel 15) = false := by decide
theorem test_wf_ijmp_r13_accepted : Instr.wellFormed (.ijmpAbs 13) = true := by decide

/-! ### Decoding: for every row of the opcode table, a word written out from its encoding -/

/-- Whether each list of bytes decodes to the instruction beside it. -/
def decodesTo (cs : List (List Byte × Instr)) : Bool := cs.all fun c => decide (decode c.1 = .ok (c.2, []))

/-- Whether each list of bytes is refused for the reason beside it. -/
def refusedFor (cs : List (List Byte × DecodeError)) : Bool := cs.all fun c => decide (decode c.1 = .error c.2)

theorem test_decode_arithmetic_and_moves : decodesTo [
    ([0x00, 0x01], .und000 1),
    ([0x00, 0x19, 0x40, 0x72, 0x01, 0x11], .add true true (.ind 0 0 true .b8 2) (.reg .b2 17)),
    ([0x00, 0x21, 0xE0, 0x30, 0x00, 0x40, 0x9F, 0xFF],
      .sub false true (.memRef false .b8 (.i16 0x4000)) (.short true 0xFFF)),
    ([0x00, 0x38, 0xC1, 0x00, 0x44, 0x33, 0x22, 0x11, 0x4D, 0xB1],
      .and true false (.long false (.i32 0x11223344)) (.ind 3 3 false .b8 1)),
    ([0x00, 0x49, 0x01, 0x11, 0xE6, 0x20, 0xF8, 0xFF, 0xFF, 0xFF, 0xFF, 0xFF, 0xFF, 0xFF],
      .or true true (.reg .b2 17) (.memRef true .b4 (.i64 0xFFFFFFFFFFFFFFF8))),
    ([0x00, 0x51, 0x9F, 0xFF, 0x03, 0x01], .xor false true (.short true 0xFFF) (.reg .b8 1)),
    ([0x00, 0x6D], .mul .b8 true),
    ([0x00, 0x76], .div .b2 true false),
    ([0x00, 0x80, 0x03, 0x01, 0xE0, 0x30, 0x00, 0x40], .mov (.reg .b8 1) (.memRef false .b8 (.i16 0x4000))),
    ([0x00, 0x90, 0x80, 0x05, 0xC1, 0x00, 0x44, 0x33, 0x22, 0x11],
      .lea (.short false 5) (.long false (.i32 0x11223344))),
    ([0x00, 0xA9, 0x40, 0x72], .movTogpr 9 (.ind 0 0 true .b8 2)),
    ([0x00, 0xB3, 0xE0, 0x30, 0x00, 0x40], .movFromgpr 3 (.memRef false .b8 (.i16 0x4000))),
    ([0x00, 0xC7, 0xC1, 0x00, 0x44, 0x33, 0x22, 0x11], .leaTogpr 7 (.long false (.i32 0x11223344)))] = true := by
  decide +kernel

theorem test_decode_stack_and_bulk : decodesTo [
    ([0x01, 0x00], .nop),
    ([0x01, 0x10, 0x9F, 0xFF], .nop1 (.short true 0xFFF)),
    ([0x01, 0x20, 0x4D, 0xB1, 0x80, 0x05], .nop2 (.ind 3 3 false .b8 1) (.short false 5)),
    ([0x01, 0x30, 0xE6, 0x20, 0xF8, 0xFF, 0xFF, 0xFF, 0xFF, 0xFF, 0xFF, 0xFF, 0x40, 0x72, 0x01, 0x11],
      .nop3 (.memRef true .b4 (.i64 0xFFFFFFFFFFFFFFF8)) (.ind 0 0 true .b8 2) (.reg .b2 17)),
    ([0x01, 0x40, 0x03, 0x01], .push (.reg .b8 1)),
    ([0x01, 0x50, 0x80, 0x05], .pop (.short false 5)),
    ([0x01, 0x63], .pushReg 3),
    ([0x01, 0x77], .popReg 7),
    ([0x01, 0x80, 0xC1, 0x00, 0x44, 0x33, 0x22, 0x11], .stogpr (.long false (.i32 0x11223344))),
    ([0x01, 0x90, 0x01, 0x11], .stoar (.reg .b2 17)),
    ([0x01, 0xA0, 0x9F, 0xFF], .rstogpr (.short true 0xFFF)),
    ([0x01, 0xB0, 0x4D, 0xB1], .rstoar (.ind 3 3 false .b8 1)),
    ([0x01, 0xC0], .pushgpr),
    ([0x01, 0xD0], .pushar),
    ([0x01, 0xE0], .popgpr),
    ([0x01, 0xF0], .popar)] = true := by
  decide +kernel

theorem test_decode_converting : decodesTo [
    ([0x02, 0x01, 0xE0, 0x30, 0x00, 0x40, 0x9F, 0xFF],
      .movsx true (.memRef false .b8 (.i16 0x4000)) (.short true 0xFFF)),
    ([0x02, 0x11, 0xC1, 0x00, 0x44, 0x33, 0x22, 0x11, 0x4D, 0xB1],
      .bswap true (.long false (.i32 0x11223344)) (.ind 3 3 false .b8 1))] = true := by
  decide +kernel

theorem test_decode_shifts : decodesTo [
    ([0x03, 0x09, 0x01, 0x11, 0xE6, 0x20, 0xF8, 0xFF, 0xFF, 0xFF, 0xFF, 0xFF, 0xFF, 0xFF],
      .lsh true true (.reg .b2 17) (.memRef true .b4 (.i64 0xFFFFFFFFFFFFFFF8))),
    ([0x03, 0x11, 0x9F, 0xFF, 0x03, 0x01], .rsh false true (.short true 0xFFF) (.reg .b8 1)),
    ([0x03, 0x28, 0x4D, 0xB1, 0x80, 0x05], .arsh true false (.ind 3 3 false .b8 1) (.short false 5)),
    ([0x03, 0x39, 0xE6, 0x20, 0xF8, 0xFF, 0xFF, 0xFF, 0xFF, 0xFF, 0xFF, 0xFF, 0x40, 0x72],
      .lshc true true (.memRef true .b4 (.i64 0xFFFFFFFFFFFFFFF8)) (.ind 0 0 true .b8 2)),
    ([0x03, 0x41, 0x03, 0x01, 0xE0, 0x30, 0x00, 0x40],
      .rshc false true (.reg .b8 1) (.memRef false .b8 (.i16 0x4000))),
    ([0x03, 0x58, 0x80, 0x05, 0xC1, 0x00, 0x44, 0x33, 0x22, 0x11],
      .lrot true false (.short false 5) (.long false (.i32 0x11223344))),
    ([0x03, 0x69, 0x40, 0x72, 0x01, 0x11], .rrot true true (.ind 0 0 true .b8 2) (.reg .b2 17)),
    ([0x03, 0x89, 0xE0, 0x30, 0x00, 0x40], .lshGpr 9 (.memRef false .b8 (.i16 0x4000))),
    ([0x03, 0x93, 0xC1, 0x00, 0x44, 0x33, 0x22, 0x11], .rshGpr 3 (.long false (.i32 0x11223344))),
    ([0x03, 0xA7, 0x01, 0x11], .arshGpr 7 (.reg .b2 17)),
    ([0x03, 0xBC, 0x9F, 0xFF], .lshcGpr 12 (.short true 0xFFF)),
    ([0x03, 0xC9, 0x4D, 0xB1], .rshcGpr 9 (.ind 3 3 false .b8 1)),
    ([0x03, 0xD3, 0xE6, 0x20, 0xF8, 0xFF, 0xFF, 0xFF, 0xFF, 0xFF, 0xFF, 0xFF],
      .lrotGpr 3 (.memRef true .b4 (.i64 0xFFFFFFFFFFFFFFF8))),
    ([0x03, 0xE7, 0x03, 0x01], .rrotGpr 7 (.reg .b8 1))] = true := by
  decide +kernel

theorem test_decode_unary_and_gpr : decodesTo [
    ([0x04, 0x09], .imul .b4 true),
    ([0x04, 0x19, 0x40, 0x72], .addTogpr 9 (.ind 0 0 true .b8 2)),
    ([0x04, 0x23, 0xE0, 0x30, 0x00, 0x40], .subTogpr 3 (.memRef false .b8 (.i16 0x4000))),
    ([0x04, 0x37, 0xC1, 0x00, 0x44, 0x33, 0x22, 0x11], .andTogpr 7 (.long false (.i32 0x11223344))),
    ([0x04, 0x4C, 0x01, 0x11], .orTogpr 12 (.reg .b2 17)),
    ([0x04, 0x59, 0x9F, 0xFF], .xorTogpr 9 (.short true 0xFFF)),
    ([0x04, 0x68, 0x4D, 0xB1], .bnot true false (.ind 3 3 false .b8 1)),
    ([0x04, 0x79, 0xE6, 0x20, 0xF8, 0xFF, 0xFF, 0xFF, 0xFF, 0xFF, 0xFF, 0xFF],
      .neg true true (.memRef true .b4 (.i64 0xFFFFFFFFFFFFFFF8))),
    ([0x04, 0x8E], .idiv .b8 true false),
    ([0x04, 0x99, 0x80, 0x05], .addFromgpr 9 (.short false 5)),
    ([0x04, 0xA3, 0x40, 0x72], .subFromgpr 3 (.ind 0 0 true .b8 2)),
    ([0x04, 0xB7, 0xE0, 0x30, 0x00, 0x40], .andFromgpr 7 (.memRef false .b8 (.i16 0x4000))),
    ([0x04, 0xCC, 0xC1, 0x00, 0x44, 0x33, 0x22, 0x11], .orFromgpr 12 (.long false (.i32 0x11223344))),
    ([0x04, 0xD9, 0x01, 0x11], .xorFromgpr 9 (.reg .b2 17)),
    ([0x04, 0xE3], .bnotGpr 3),
    ([0x04, 0xF7], .negGpr 7)] = true := by
  decide +kernel

theorem test_decode_conditional : decodesTo [
    ([0x06, 0x89, 0xE6, 0x20, 0xF8, 0xFF, 0xFF, 0xFF, 0xFF, 0xFF, 0xFF, 0xFF, 0x40, 0x72, 0x01, 0x11],
      .cmovt .a (.memRef true .b4 (.i64 0xFFFFFFFFFFFFFFF8)) (.ind 0 0 true .b8 2) (.reg .b2 17)),
    ([0x06, 0x94, 0x03, 0x01, 0xE0, 0x30, 0x00, 0x40], .cmov .lt (.reg .b8 1) (.memRef false .b8 (.i16 0x4000))),
    ([0x06, 0xC0, 0x80, 0x05, 0xC1, 0x00, 0x44, 0x33, 0x22, 0x11],
      .cmp (.short false 5) (.long false (.i32 0x11223344))),
    ([0x06, 0xD0, 0x40, 0x72, 0x01, 0x11], .test (.ind 0 0 true .b8 2) (.reg .b2 17)),
    ([0x06, 0xEC, 0xE0, 0x30, 0x00, 0x40], .cmpGpr 12 (.memRef false .b8 (.i16 0x4000))),
    ([0x06, 0xF9, 0xC1, 0x00, 0x44, 0x33, 0x22, 0x11], .testGpr 9 (.long false (.i32 0x11223344)))] = true := by
  decide +kernel

theorem test_decode_atomic : decodesTo [
    ([0x20, 0x00, 0x01, 0x11, 0xE6, 0x20, 0xF8, 0xFF, 0xFF, 0xFF, 0xFF, 0xFF, 0xFF, 0xFF],
      .xchg (.reg .b2 17) (.memRef true .b4 (.i64 0xFFFFFFFFFFFFFFF8))),
    ([0x20, 0x10, 0x9F, 0xFF, 0x03, 0x01, 0xE0, 0x30, 0x00, 0x40],
      .cmpxchg (.short true 0xFFF) (.reg .b8 1) (.memRef false .b8 (.i16 0x4000))),
    ([0x20, 0x20, 0x4D, 0xB1, 0x80, 0x05, 0xC1, 0x00, 0x44, 0x33, 0x22, 0x11],
      .wcmpxchg (.ind 3 3 false .b8 1) (.short false 5) (.long false (.i32 0x11223344))),
    ([0x20, 0x30], .fence)] = true := by
  decide +kernel

theorem test_decode_jcc_abs16 : decodesTo [
    ([0x70, 0x08, 0xF2, 0xFF], .jpAbs16 8 0xFFF2),
    ([0x70, 0x1D, 0xF2, 0xFF], .jcAbs16 13 0xFFF2),
    ([0x70, 0x22, 0xF2, 0xFF], .jvAbs16 2 0xFFF2),
    ([0x70, 0x37, 0xF2, 0xFF], .jzAbs16 7 0xFFF2),
    ([0x70, 0x4C, 0xF2, 0xFF], .jltAbs16 12 0xFFF2),
    ([0x70, 0x51, 0xF2, 0xFF], .jleAbs16 1 0xFFF2),
    ([0x70, 0x66, 0xF2, 0xFF], .jbeAbs16 6 0xFFF2),
    ([0x70, 0x7B, 0xF2, 0xFF], .jmiAbs16 11 0xFFF2),
    ([0x70, 0x80, 0xF2, 0xFF], .jplAbs16 0 0xFFF2),
    ([0x70, 0x95, 0xF2, 0xFF], .jaAbs16 5 0xFFF2),
    ([0x70, 0xAA, 0xF2, 0xFF], .jgtAbs16 10 0xFFF2),
    ([0x70, 0xBF, 0xF2, 0xFF], .jgeAbs16 15 0xFFF2),
    ([0x70, 0xC4, 0xF2, 0xFF], .jnzAbs16 4 0xFFF2),
    ([0x70, 0xD9, 0xF2, 0xFF], .jnvAbs16 9 0xFFF2),
    ([0x70, 0xEE, 0xF2, 0xFF], .jncAbs16 14 0xFFF2),
    ([0x70, 0xF3, 0xF2, 0xFF], .jnpAbs16 3 0xFFF2)] = true := by
  decide +kernel

theorem test_decode_jcc_rel16 : decodesTo [
    ([0x71, 0x08, 0xF2, 0xFF], .jpRel16 8 0xFFF2),
    ([0x71, 0x1D, 0xF2, 0xFF], .jcRel16 13 0xFFF2),
    ([0x71, 0x22, 0xF2, 0xFF], .jvRel16 2 0xFFF2),
    ([0x71, 0x37, 0xF2, 0xFF], .jzRel16 7 0xFFF2),
    ([0x71, 0x4C, 0xF2, 0xFF], .jltRel16 12 0xFFF2),
    ([0x71, 0x51, 0xF2, 0xFF], .jleRel16 1 0xFFF2),
    ([0x71, 0x66, 0xF2, 0xFF], .jbeRel16 6 0xFFF2),
    ([0x71, 0x7B, 0xF2, 0xFF], .jmiRel16 11 0xFFF2),
    ([0x71, 0x80, 0xF2, 0xFF], .jplRel16 0 0xFFF2),
    ([0x71, 0x95, 0xF2, 0xFF], .jaRel16 5 0xFFF2),
    ([0x71, 0xAA, 0xF2, 0xFF], .jgtRel16 10 0xFFF2),
    ([0x71, 0xBF, 0xF2, 0xFF], .jgeRel16 15 0xFFF2),
    ([0x71, 0xC4, 0xF2, 0xFF], .jnzRel16 4 0xFFF2),
    ([0x71, 0xD9, 0xF2, 0xFF], .jnvRel16 9 0xFFF2),
    ([0x71, 0xEE, 0xF2, 0xFF], .jncRel16 14 0xFFF2),
    ([0x71, 0xF3, 0xF2, 0xFF], .jnpRel16 3 0xFFF2)] = true := by
  decide +kernel

theorem test_decode_jcc_abs32 : decodesTo [
    ([0x74, 0x08, 0x04, 0x00, 0x00, 0x80], .jpAbs32 8 0x80000004),
    ([0x74, 0x1D, 0x04, 0x00, 0x00, 0x80], .jcAbs32 13 0x80000004),
    ([0x74, 0x22, 0x04, 0x00, 0x00, 0x80], .jvAbs32 2 0x80000004),
    ([0x74, 0x37, 0x04, 0x00, 0x00, 0x80], .jzAbs32 7 0x80000004),
    ([0x74, 0x4C, 0x04, 0x00, 0x00, 0x80], .jltAbs32 12 0x80000004),
    ([0x74, 0x51, 0x04, 0x00, 0x00, 0x80], .jleAbs32 1 0x80000004),
    ([0x74, 0x66, 0x04, 0x00, 0x00, 0x80], .jbeAbs32 6 0x80000004),
    ([0x74, 0x7B, 0x04, 0x00, 0x00, 0x80], .jmiAbs32 11 0x80000004),
    ([0x74, 0x80, 0x04, 0x00, 0x00, 0x80], .jplAbs32 0 0x80000004),
    ([0x74, 0x95, 0x04, 0x00, 0x00, 0x80], .jaAbs32 5 0x80000004),
    ([0x74, 0xAA, 0x04, 0x00, 0x00, 0x80], .jgtAbs32 10 0x80000004),
    ([0x74, 0xBF, 0x04, 0x00, 0x00, 0x80], .jgeAbs32 15 0x80000004),
    ([0x74, 0xC4, 0x04, 0x00, 0x00, 0x80], .jnzAbs32 4 0x80000004),
    ([0x74, 0xD9, 0x04, 0x00, 0x00, 0x80], .jnvAbs32 9 0x80000004),
    ([0x74, 0xEE, 0x04, 0x00, 0x00, 0x80], .jncAbs32 14 0x80000004),
    ([0x74, 0xF3, 0x04, 0x00, 0x00, 0x80], .jnpAbs32 3 0x80000004)] = true := by
  decide +kernel

theorem test_decode_jcc_rel32 : decodesTo [
    ([0x75, 0x08, 0x04, 0x00, 0x00, 0x80], .jpRel32 8 0x80000004),
    ([0x75, 0x1D, 0x04, 0x00, 0x00, 0x80], .jcRel32 13 0x80000004),
    ([0x75, 0x22, 0x04, 0x00, 0x00, 0x80], .jvRel32 2 0x80000004),
    ([0x75, 0x37, 0x04, 0x00, 0x00, 0x80], .jzRel32 7 0x80000004),
    ([0x75, 0x4C, 0x04, 0x00, 0x00, 0x80], .jltRel32 12 0x80000004),
    ([0x75, 0x51, 0x04, 0x00, 0x00, 0x80], .jleRel32 1 0x80000004),
    ([0x75, 0x66, 0x04, 0x00, 0x00, 0x80], .jbeRel32 6 0x80000004),
    ([0x75, 0x7B, 0x04, 0x00, 0x00, 0x80], .jmiRel32 11 0x80000004),
    ([0x75, 0x80, 0x04, 0x00, 0x00, 0x80], .jplRel32 0 0x80000004),
    ([0x75, 0x95, 0x04, 0x00, 0x00, 0x80], .jaRel32 5 0x80000004),
    ([0x75, 0xAA, 0x04, 0x00, 0x00, 0x80], .jgtRel32 10 0x80000004),
    ([0x75, 0xBF, 0x04, 0x00, 0x00, 0x80], .jgeRel32 15 0x80000004),
    ([0x75, 0xC4, 0x04, 0x00, 0x00, 0x80], .jnzRel32 4 0x80000004),
    ([0x75, 0xD9, 0x04, 0x00, 0x00, 0x80], .jnvRel32 9 0x80000004),
    ([0x75, 0xEE, 0x04, 0x00, 0x00, 0x80], .jncRel32 14 0x80000004),
    ([0x75, 0xF3, 0x04, 0x00, 0x00, 0x80], .jnpRel32 3 0x80000004)] = true := by
  decide +kernel

theorem test_decode_jcc_abs64 : decodesTo [
    ([0x78, 0x08, 0x06, 0x00, 0x00, 0x00, 0x00, 0x00, 0x00, 0x80], .jpAbs64 8 0x8000000000000006),
    ([0x78, 0x1D, 0x06, 0x00, 0x00, 0x00, 0x00, 0x00, 0x00, 0x80], .jcAbs64 13 0x8000000000000006),
    ([0x78, 0x22, 0x06, 0x00, 0x00, 0x00, 0x00, 0x00, 0x00, 0x80], .jvAbs64 2 0x8000000000000006),
    ([0x78, 0x37, 0x06, 0x00, 0x00, 0x00, 0x00, 0x00, 0x00, 0x80], .jzAbs64 7 0x8000000000000006),
    ([0x78, 0x4C, 0x06, 0x00, 0x00, 0x00, 0x00, 0x00, 0x00, 0x80], .jltAbs64 12 0x8000000000000006),
    ([0x78, 0x51, 0x06, 0x00, 0x00, 0x00, 0x00, 0x00, 0x00, 0x80], .jleAbs64 1 0x8000000000000006),
    ([0x78, 0x66, 0x06, 0x00, 0x00, 0x00, 0x00, 0x00, 0x00, 0x80], .jbeAbs64 6 0x8000000000000006),
    ([0x78, 0x7B, 0x06, 0x00, 0x00, 0x00, 0x00, 0x00, 0x00, 0x80], .jmiAbs64 11 0x8000000000000006),
    ([0x78, 0x80, 0x06, 0x00, 0x00, 0x00, 0x00, 0x00, 0x00, 0x80], .jplAbs64 0 0x8000000000000006),
    ([0x78, 0x95, 0x06, 0x00, 0x00, 0x00, 0x00, 0x00, 0x00, 0x80], .jaAbs64 5 0x8000000000000006),
    ([0x78, 0xAA, 0x06, 0x00, 0x00, 0x00, 0x00, 0x00, 0x00, 0x80], .jgtAbs64 10 0x8000000000000006),
    ([0x78, 0xBF, 0x06, 0x00, 0x00, 0x00, 0x00, 0x00, 0x00, 0x80], .jgeAbs64 15 0x8000000000000006),
    ([0x78, 0xC4, 0x06, 0x00, 0x00, 0x00, 0x00, 0x00, 0x00, 0x80], .jnzAbs64 4 0x8000000000000006),
    ([0x78, 0xD9, 0x06, 0x00, 0x00, 0x00, 0x00, 0x00, 0x00, 0x80], .jnvAbs64 9 0x8000000000000006),
    ([0x78, 0xEE, 0x06, 0x00, 0x00, 0x00, 0x00, 0x00, 0x00, 0x80], .jncAbs64 14 0x8000000000000006),
    ([0x78, 0xF3, 0x06, 0x00, 0x00, 0x00, 0x00, 0x00, 0x00, 0x80], .jnpAbs64 3 0x8000000000000006)] = true := by
  decide +kernel

theorem test_decode_jcc_rel64 : decodesTo [
    ([0x79, 0x08, 0x06, 0x00, 0x00, 0x00, 0x00, 0x00, 0x00, 0x80], .jpRel64 8 0x8000000000000006),
    ([0x79, 0x1D, 0x06, 0x00, 0x00, 0x00, 0x00, 0x00, 0x00, 0x80], .jcRel64 13 0x8000000000000006),
    ([0x79, 0x22, 0x06, 0x00, 0x00, 0x00, 0x00, 0x00, 0x00, 0x80], .jvRel64 2 0x8000000000000006),
    ([0x79, 0x37, 0x06, 0x00, 0x00, 0x00, 0x00, 0x00, 0x00, 0x80], .jzRel64 7 0x8000000000000006),
    ([0x79, 0x4C, 0x06, 0x00, 0x00, 0x00, 0x00, 0x00, 0x00, 0x80], .jltRel64 12 0x8000000000000006),
    ([0x79, 0x51, 0x06, 0x00, 0x00, 0x00, 0x00, 0x00, 0x00, 0x80], .jleRel64 1 0x8000000000000006),
    ([0x79, 0x66, 0x06, 0x00, 0x00, 0x00, 0x00, 0x00, 0x00, 0x80], .jbeRel64 6 0x8000000000000006),
    ([0x79, 0x7B, 0x06, 0x00, 0x00, 0x00, 0x00, 0x00, 0x00, 0x80], .jmiRel64 11 0x8000000000000006),
    ([0x79, 0x80, 0x06, 0x00, 0x00, 0x00, 0x00, 0x00, 0x00, 0x80], .jplRel64 0 0x8000000000000006),
    ([0x79, 0x95, 0x06, 0x00, 0x00, 0x00, 0x00, 0x00, 0x00, 0x80], .jaRel64 5 0x8000000000000006),
    ([0x79, 0xAA, 0x06, 0x00, 0x00, 0x00, 0x00, 0x00, 0x00, 0x80], .jgtRel64 10 0x8000000000000006),
    ([0x79, 0xBF, 0x06, 0x00, 0x00, 0x00, 0x00, 0x00, 0x00, 0x80], .jgeRel64 15 0x8000000000000006),
    ([0x79, 0xC4, 0x06, 0x00, 0x00, 0x00, 0x00, 0x00, 0x00, 0x80], .jnzRel64 4 0x8000000000000006),
    ([0x79, 0xD9, 0x06, 0x00, 0x00, 0x00, 0x00, 0x00, 0x00, 0x80], .jnvRel64 9 0x8000000000000006),
    ([0x79, 0xEE, 0x06, 0x00, 0x00, 0x00, 0x00, 0x00, 0x00, 0x80], .jncRel64 14 0x8000000000000006),
    ([0x79, 0xF3, 0x06, 0x00, 0x00, 0x00, 0x00, 0x00, 0x00, 0x80], .jnpRel64 3 0x8000000000000006)] = true := by
  decide +kernel

theorem test_decode_transfer : decodesTo [
    ([0x7C, 0x00, 0x34, 0x12], .jmpAbs (.i16 0x1234)),
    ([0x7C, 0x11, 0xEF, 0xCD, 0xAB, 0x89], .callAbs (.i32 0x89ABCDEF)),
    ([0x7C, 0x22, 0xEF, 0xCD, 0xAB, 0x89, 0x67, 0x45, 0x23, 0x01], .fcallAbs (.i64 0x123456789ABCDEF)),
    ([0x7C, 0x30], .ret),
    ([0x7C, 0x40], .scall),
    ([0x7C, 0x57], .int 7),
    ([0x7C, 0x8C], .ijmpAbs 12),
    ([0x7C, 0x8E], .fretAbs),
    ([0x7C, 0x8F], .ifjmpAbs),
    ([0x7C, 0x97], .icallAbs 7),
    ([0x7C, 0xA0], .ifcallAbs),
    ([0x7C, 0xB2, 0xEF, 0xCD, 0xAB, 0x89, 0x67, 0x45, 0x23, 0x01], .jsmAbs (.i64 0x123456789ABCDEF)),
    ([0x7C, 0xC8, 0x34, 0x12], .callsmAbs true (.i16 0x1234)),
    ([0x7C, 0xD0], .retrsm),
    ([0x7D, 0x02, 0xEF, 0xCD, 0xAB, 0x89, 0x67, 0x45, 0x23, 0x01], .jmpRel (.i64 0x123456789ABCDEF)),
    ([0x7D, 0x10, 0x34, 0x12], .callRel (.i16 0x1234)),
    ([0x7D, 0x21, 0xEF, 0xCD, 0xAB, 0x89], .fcallRel (.i32 0x89ABCDEF)),
    ([0x7D, 0x87], .ijmpRel 7),
    ([0x7D, 0x8E], .fretRel),
    ([0x7D, 0x8F], .ifjmpRel),
    ([0x7D, 0x93], .icallRel 3),
    ([0x7D, 0xA0], .ifcallRel),
    ([0x7D, 0xB1, 0xEF, 0xCD, 0xAB, 0x89], .jsmRel (.i32 0x89ABCDEF)),
    ([0x7D, 0xCA, 0xEF, 0xCD, 0xAB, 0x89, 0x67, 0x45, 0x23, 0x01], .callsmRel true (.i64 0x123456789ABCDEF))] = true := by
  decide +kernel

theorem test_decode_supervisor : decodesTo [
    ([0x80, 0x10], .halt),
    ([0x80, 0x20], .pcfl),
    ([0x80, 0x30], .flall),
    ([0x80, 0x40, 0x9F, 0xFF], .dflush (.short true 0xFFF)),
    ([0x80, 0x50, 0x4D, 0xB1], .iflush (.ind 3 3 false .b8 1)),
    ([0x80, 0x62], .ioIn .b4),
    ([0x80, 0x73], .ioOut .b8),
    ([0x80, 0x80, 0x80, 0x05], .storegf (.short false 5)),
    ([0x80, 0x90, 0x40, 0x72], .rstregf (.ind 0 0 true .b8 2))] = true := by
  decide +kernel

theorem test_decode_machine : decodesTo [
    ([0xFC, 0x60], .scret),
    ([0xFC, 0x70], .reti),
    ([0xFE, 0x0B], .machineFe0 11),
    ([0xFE, 0x1C], .machineFe1 12),
    ([0xFE, 0x2D], .machineFe2 13),
    ([0xFE, 0x3E], .machineFe3 14),
    ([0xFE, 0x4F], .machineFe4 15),
    ([0xFE, 0x50], .machineFe5 0),
    ([0xFE, 0x61], .machineFe6 1),
    ([0xFE, 0x72], .machineFe7 2),
    ([0xFE, 0x83], .machineFe8 3),
    ([0xFE, 0x94], .machineFe9 4),
    ([0xFE, 0xA5], .machineFea 5),
    ([0xFE, 0xB6], .machineFeb 6),
    ([0xFE, 0xC7], .machineFec 7),
    ([0xFE, 0xD8], .machineFed 8),
    ([0xFE, 0xE9], .machineFee 9),
    ([0xFE, 0xFA], .machineFef 10),
    ([0xFF, 0x0B], .machineFf0 11),
    ([0xFF, 0x1C], .machineFf1 12),
    ([0xFF, 0x2D], .machineFf2 13),
    ([0xFF, 0x3E], .machineFf3 14),
    ([0xFF, 0x4F], .machineFf4 15),
    ([0xFF, 0x50], .machineFf5 0),
    ([0xFF, 0x61], .machineFf6 1),
    ([0xFF, 0x72], .machineFf7 2),
    ([0xFF, 0x83], .machineFf8 3),
    ([0xFF, 0x94], .machineFf9 4),
    ([0xFF, 0xA5], .machineFfa 5),
    ([0xFF, 0xB6], .machineFfb 6),
    ([0xFF, 0xC7], .machineFfc 7),
    ([0xFF, 0xD8], .machineFfd 8),
    ([0xFF, 0xE9], .machineFfe 9),
    ([0xFF, 0xFA], .undFFF 10)] = true := by
  decide +kernel

theorem test_decode_refused : refusedFor [
    ([0x00, 0x12], .reservedH), ([0x00, 0x6E], .reservedH), ([0x7C, 0x03], .reservedH), ([0x7C, 0xA1], .reservedH),
    ([0x7D, 0x30], .undefinedOpcode), ([0x80, 0x00], .undefinedOpcode), ([0x00, 0xD0], .undefinedOpcode),
    ([0x01, 0x40, 0x04, 0x01], .malformedOperand), ([0x01, 0x40, 0xA0, 0x01], .malformedOperand),
    ([0x01, 0x40, 0xC3, 0x00], .malformedOperand), ([0x01, 0x40, 0xC0, 0x10], .malformedOperand),
    ([0x01, 0x40, 0xE0, 0x31], .malformedOperand), ([0x01, 0x40, 0xC0, 0x00, 0x01], .truncated), ([0x01], .truncated)] =
    true := by
  decide +kernel

/-! ### Vectors -/

/-- A part of a state with its value: a numbered register, bytes of memory (address, count), or a bit of `flags`. -/
inductive Part
  | r (n v : Nat)
  | m (a n v : Nat)
  | f (bit : Nat) (v : Bool)

/-- Place a little-endian value in memory. -/
def poke (s : State) (a n v : Nat) : State :=
  { s with mem := Memory.setMany s.mem ((List.range n).map (a + ·)) (leBytes n v) }

/-- Set one part. -/
def setPart (s : State) : Part → State
  | .m a n v => poke s a n v
  | .f bit v => { s with flags := putBit s.flags bit v }
  | .r n v =>
    let w : Word := BitVec.ofNat 64 v
    match n with
    | 16 => { s with ip := w }
    | 17 => { s with flags := w }
    | 18 => { s with mode := w }
    | 128 => { s with cr0 := w }
    | 129 => { s with page := w }
    | _ => s.writeReg (BitVec.ofNat 8 n) w

/-- Setup S of 95_test_vectors.md, with the interrupt table entries the vectors use. -/
def setup : State :=
  [0, 1, 2, 3, 4, 5, 6, 19].foldl (fun s n => poke s (0x120 + 0x20 * n) 8 (0x4000 + 0x10 * n))
    (poke ({ State.reset with ip := 0x1000, itabp := 0x100 }.setR 7 0x8000) 0x100 8 0x800)

/-- Setup S with some parts set and the bytes of an instruction at `ip`. -/
def start (bs : List Byte) (ps : List Part) : State :=
  let s := ps.foldl setPart setup
  bs.zipIdx.foldl (fun s c => poke s (s.ip.toNat + c.2) 1 c.1.toNat) s

/-- Whether a part has its value. -/
def Part.holds (s : State) : Part → Bool
  | .r n v => (if n = 16 then s.ip else s.readReg 0 (BitVec.ofNat 8 n)).toNat == v
  | .m a n v => s.load ((List.range n).map (a + ·)) == v
  | .f bit v => s.flags.getLsbD bit == v

/-- Whether one step from a start ends with the given parts, at the following instruction unless the parts give `ip`. -/
def runs (bs : List Byte) (ps es : List Part) : Bool :=
  let s := start bs ps
  let moved := es.any fun e => match e with | .r 16 _ => true | _ => false
  match step s with
  | .next t => (es.all fun e => e.holds t) && (moved || t.ip == s.ip + BitVec.ofNat 64 bs.length)
  | _ => false

/-- Whether one step delivers exception `n` as the vectors' "faults E(n)" says. -/
def faults (n : Nat) (bs : List Byte) (ps es : List Part) : Bool :=
  let s := start bs ps
  runs bs ps
    (es ++ [.r 16 (0x4000 + 0x10 * n), .r 7 0x7fe0, .r 18 0, .m 0x7fe0 8 s.ip.toNat, .m 0x7fe8 8 s.mode.toNat,
      .m 0x7ff0 8 s.flags.toNat, .m 0x7ff8 8 0x8000])

theorem test_add_V_A3 :
    runs [0x00, 0x10, 0x03, 0x00, 0x03, 0x01] [.r 0 0x7fffffffffffffff, .r 1 0x1] [.r 0 0x8000000000000000, .r 17 0xc] = true := by
  decide +kernel

theorem test_add_V_A6 :
    runs [0x00, 0x10, 0x00, 0x00, 0x03, 0x01] [.r 0 0x1, .r 1 0x1ff] [.r 0 0x0, .r 17 0x3] = true := by
  decide +kernel

theorem test_sub_V_A4 :
    runs [0x00, 0x20, 0x00, 0x00, 0x80, 0x01] [.r 0 0x1100] [.r 0 0xff, .r 17 0x9] = true := by
  decide +kernel

theorem test_and_V_A9 :
    runs [0x00, 0x30, 0x03, 0x01, 0x80, 0xF0] [.r 1 0x1234, .r 17 0x5] [.r 1 0x30, .r 17 0x0] = true := by
  decide +kernel

theorem test_or_V_A12 :
    runs [0x00, 0x48, 0x40, 0x72, 0x03, 0x01] [.r 2 0x2000, .r 1 0xf0, .m 0x2000 8 0xf] [.m 0x2000 8 0xff, .r 17 0x0] = true := by
  decide +kernel

theorem test_xor_V_A10 :
    runs [0x00, 0x50, 0x03, 0x04, 0x03, 0x04] [.r 4 0x55] [.r 4 0x0, .r 17 0x2] = true := by
  decide +kernel

theorem test_add_V_A13 : faults 1 [0x00, 0x10, 0x80, 0x05, 0x03, 0x00] [] [] = true := by decide +kernel

theorem test_add_V_A17 : faults 1 [0x00, 0x12] [] [] = true := by decide +kernel

theorem test_add_V_A19 :
    faults 2 [0x00, 0x10, 0x03, 0x80, 0x03, 0x00] [.r 18 0x300000000] [.r 144 0x0] = true := by
  decide +kernel

theorem test_mul_V_M3 : runs [0x00, 0x60] [.r 0 0x1ff, .r 3 0x102] [.r 0 0xfe, .r 3 0x1] = true := by decide +kernel

theorem test_div_V_M5 :
    runs [0x00, 0x7E] [.r 1 0x1, .r 0 0x0, .r 3 0x2] [.r 0 0x8000000000000000, .r 3 0x0] = true := by
  decide +kernel

theorem test_div_V_M8 : faults 6 [0x00, 0x70] [.r 0 0x1, .r 3 0x100] [] = true := by decide +kernel

theorem test_imul_V_M10 : runs [0x04, 0x00] [.r 0 0xff, .r 3 0x2] [.r 0 0xfe, .r 3 0xff] = true := by decide +kernel

theorem test_idiv_V_M13 : runs [0x04, 0x80] [.r 0 0x80, .r 3 0xff] [.r 0 0x80, .r 3 0x0] = true := by decide +kernel

theorem test_mov_V_V1 :
    runs [0x00, 0x80, 0x03, 0x01, 0xC0, 0x00, 0x00, 0x80] [] [.r 1 0x8000, .r 17 0x0] = true := by
  decide +kernel

theorem test_mov_V_V6 : runs [0x00, 0x80, 0x03, 0x01, 0x03, 0x10] [] [.r 1 0x1006] = true := by decide +kernel

theorem test_mov_V_V4 : runs [0x00, 0xA5, 0x88, 0x00] [] [.r 5 0x800, .r 17 0x8] = true := by decide +kernel

theorem test_mov_V_V5 :
    runs [0x00, 0xB2, 0x40, 0x41] [.r 1 0x2000, .r 2 0x1ff] [.m 0x2000 1 0xff, .r 17 0x8] = true := by
  decide +kernel

theorem test_lea_V_V7 :
    runs [0x00, 0x90, 0x03, 0x01, 0x4D, 0xF2] [.r 2 0x1000] [.r 1 0x1018] = true := by
  decide +kernel

theorem test_lea_V_V8 : runs [0x00, 0xC1, 0xE4, 0x30, 0xFA, 0xFF] [] [.r 1 0x1000] = true := by decide +kernel

theorem test_mov_V_V9 :
    faults 2 [0x00, 0x80, 0x03, 0x80, 0x03, 0x02] [.r 18 0x300000000, .r 2 0x2] [.r 144 0x0] = true := by
  decide +kernel

theorem test_nop_V_V11 : runs [0x01, 0x10, 0x03, 0x80] [.r 18 0x300000000] [.r 16 0x1004] = true := by decide +kernel

theorem test_push_V_K1 : runs [0x01, 0x40, 0x80, 0x05] [] [.r 7 0x7ff8, .m 0x7FF8 8 0x5] = true := by decide +kernel

theorem test_push_V_K2 : runs [0x01, 0x67] [] [.r 7 0x7ff8, .m 0x7FF8 8 0x8000] = true := by decide +kernel

theorem test_pop_V_K4 :
    runs [0x01, 0x50, 0x03, 0x11] [.r 7 0x7ff8, .m 0x7FF8 8 0xffff] [.r 17 0x1f, .r 7 0x8000] = true := by
  decide +kernel

theorem test_pop_V_K5 : runs [0x01, 0x77] [.r 7 0x7ff8, .m 0x7FF8 8 0x100] [.r 7 0x108] = true := by decide +kernel

theorem test_stogpr_V_B1 :
    runs [0x01, 0x80, 0x40, 0x77] [.r 0 0x11, .r 15 0xff] [.m 0x8000 8 0x11, .m 0x8038 8 0x8000, .m 0x8078 8 0xff] = true := by
  decide +kernel

theorem test_pushgpr_V_B2 :
    runs [0x01, 0xC0] [.r 0 0x11] [.r 7 0x7f80, .m 0x7F80 8 0x11, .m 0x7FB8 8 0x8000] = true := by
  decide +kernel

theorem test_pushar_V_B5 :
    runs [0x01, 0xD0] [] [.r 7 0x7c00, .m 0x7C38 8 0x8000, .m 0x7C80 8 0x1002] = true := by
  decide +kernel

theorem test_rstoar_V_B6 :
    faults 2 [0x01, 0xB0, 0xE0, 0x30, 0x00, 0x40] [.m 0x4098 8 0x1] [] = true := by
  decide +kernel

theorem test_rstoar_V_B7 :
    runs [0x01, 0xB0, 0xE0, 0x30, 0x00, 0x40] [.m 0x4008 8 0x9, .m 0x4080 8 0x9999, .m 0x4088 8 0xffff, .m 0x4090 8 0x300000000] [.r 1 0x9, .r 15 0x0, .r 17 0x1f, .r 18 0x300000000, .r 16 0x1006] = true := by
  decide +kernel

theorem test_rstogpr_V_B8 :
    runs [0x01, 0xA0, 0x40, 0x71] [.r 1 0x2000, .m 0x2008 8 0x5] [.r 1 0x5] = true := by
  decide +kernel

theorem test_movsx_V_C2 :
    runs [0x02, 0x00, 0x02, 0x01, 0x00, 0x02] [.r 2 0x80] [.r 1 0xffffff80, .f 3 true] = true := by
  decide +kernel

theorem test_bswap_V_C3 :
    runs [0x02, 0x10, 0x02, 0x01, 0x02, 0x02] [.r 2 0x11223344] [.r 1 0x44332211] = true := by
  decide +kernel

theorem test_lsh_V_C5 :
    runs [0x03, 0x00, 0x00, 0x01, 0x80, 0x08] [.r 1 0x1] [.r 1 0x0, .f 0 true, .f 1 true, .f 2 false] = true := by
  decide +kernel

theorem test_lsh_V_C6 :
    runs [0x03, 0x00, 0x00, 0x01, 0x80, 0x00] [.r 1 0xff, .r 17 0x1] [.r 1 0xff, .f 0 false, .f 3 true, .f 1 false, .f 2 false] = true := by
  decide +kernel

theorem test_rsh_V_C8 :
    runs [0x03, 0x10, 0x03, 0x01, 0x80, 0x04] [.r 1 0x18] [.r 1 0x1, .f 0 true] = true := by
  decide +kernel

theorem test_arsh_V_C11 :
    runs [0x03, 0x20, 0x00, 0x01, 0x80, 0x08] [.r 1 0x80] [.r 1 0xff, .f 0 true, .f 3 true] = true := by
  decide +kernel

theorem test_lshc_V_C13 :
    runs [0x03, 0x30, 0x00, 0x01, 0x80, 0x03] [.r 1 0x0, .r 17 0x1] [.r 1 0x7, .f 0 false] = true := by
  decide +kernel

theorem test_rshc_V_C15 :
    runs [0x03, 0x40, 0x00, 0x01, 0x80, 0x04] [.r 1 0x0, .r 17 0x1] [.r 1 0xf0, .f 0 false, .f 3 true] = true := by
  decide +kernel

theorem test_lrot_V_C17 :
    runs [0x03, 0x50, 0x00, 0x01, 0x80, 0x09] [.r 1 0x81] [.r 1 0x3, .f 0 true, .f 2 true] = true := by
  decide +kernel

theorem test_rrot_V_C20 :
    runs [0x03, 0x60, 0x00, 0x01, 0x80, 0x10] [.r 1 0x12] [.r 1 0x12, .f 0 false, .f 2 true] = true := by
  decide +kernel

theorem test_lsh_V_C21 : runs [0x03, 0x82, 0x80, 0x04] [.r 2 0x3] [.r 2 0x30] = true := by decide +kernel

theorem test_rsh_V_C22 : runs [0x03, 0x92, 0x80, 0x01] [.r 2 0x3] [.r 2 0x1, .f 0 true] = true := by decide +kernel

theorem test_arsh_V_C23 :
    runs [0x03, 0xA2, 0x80, 0x3F] [.r 2 0x8000000000000000] [.r 2 0xffffffffffffffff, .f 0 false, .f 3 true] = true := by
  decide +kernel

theorem test_lshc_V_C24 :
    runs [0x03, 0xB2, 0x80, 0x01] [.r 2 0x0, .r 17 0x1] [.r 2 0x1, .f 0 false] = true := by
  decide +kernel

theorem test_rshc_V_C25 :
    runs [0x03, 0xC2, 0x80, 0x01] [.r 2 0x0, .r 17 0x1] [.r 2 0x8000000000000000, .f 0 false, .f 3 true] = true := by
  decide +kernel

theorem test_lrot_V_C26 :
    runs [0x03, 0xD2, 0x80, 0x08] [.r 2 0xab00000000000000] [.r 2 0xab, .f 0 true] = true := by
  decide +kernel

theorem test_rrot_V_C27 :
    runs [0x03, 0xE2, 0x80, 0x04] [.r 2 0xf] [.r 2 0xf000000000000000, .f 0 true, .f 3 true] = true := by
  decide +kernel

theorem test_bnot_V_C28 :
    runs [0x04, 0x60, 0x00, 0x01] [.r 1 0xf] [.r 1 0xf0, .f 1 false, .f 3 true, .f 4 false] = true := by
  decide +kernel

theorem test_neg_V_C30 :
    runs [0x04, 0x70, 0x00, 0x01] [.r 1 0x80] [.r 1 0x80, .f 3 true, .f 4 true] = true := by
  decide +kernel

theorem test_bnot_V_C32 :
    runs [0x04, 0xE3] [.r 3 0x0] [.r 3 0xffffffffffffffff, .f 3 true, .f 4 false] = true := by
  decide +kernel

theorem test_neg_V_C33 :
    runs [0x04, 0xF3] [.r 3 0x2] [.r 3 0xfffffffffffffffe, .f 3 true, .f 4 true] = true := by
  decide +kernel

theorem test_add_V_G1 :
    runs [0x04, 0x12, 0x80, 0x01] [.r 2 0xffffffffffffffff] [.r 2 0x0, .r 17 0x3] = true := by
  decide +kernel

theorem test_sub_V_G2 : runs [0x04, 0x23, 0x80, 0x01] [.r 3 0x1] [.r 3 0x0, .r 17 0x2] = true := by decide +kernel

theorem test_and_V_G3 : runs [0x04, 0x32, 0x80, 0xFF] [.r 2 0x1234] [.r 2 0x34, .r 17 0x0] = true := by decide +kernel

theorem test_or_V_G4 : runs [0x04, 0x42, 0x80, 0x01] [.r 2 0x2] [.r 2 0x3] = true := by decide +kernel

theorem test_xor_V_G5 : runs [0x04, 0x52, 0x03, 0x02] [.r 2 0x77] [.r 2 0x0, .r 17 0x2] = true := by decide +kernel

theorem test_add_V_G6 :
    runs [0x04, 0x92, 0x40, 0x71] [.r 1 0x2000, .m 0x2000 8 0x5, .r 2 0x7] [.m 0x2000 8 0xc] = true := by
  decide +kernel

theorem test_sub_V_G7 :
    runs [0x04, 0xA2, 0x03, 0x04] [.r 4 0x5, .r 2 0x7] [.r 4 0xfffffffffffffffe, .f 0 true, .f 3 true] = true := by
  decide +kernel

theorem test_and_V_G8 : runs [0x04, 0xB2, 0x03, 0x04] [.r 4 0x6, .r 2 0x3] [.r 4 0x2] = true := by decide +kernel

theorem test_or_V_G9 : runs [0x04, 0xC2, 0x03, 0x04] [.r 4 0x4, .r 2 0x3] [.r 4 0x7] = true := by decide +kernel

theorem test_xor_V_G10 : runs [0x04, 0xD2, 0x03, 0x04] [.r 4 0x6, .r 2 0x3] [.r 4 0x5] = true := by decide +kernel

theorem test_cmov_V_P1 : runs [0x06, 0x9C, 0x03, 0x01, 0x80, 0x07] [.r 17 0x0] [.r 1 0x7] = true := by decide +kernel

theorem test_cmov_V_P2 :
    runs [0x06, 0x9C, 0x03, 0x01, 0x80, 0x07] [.r 17 0x2, .r 1 0x55] [.r 1 0x55] = true := by
  decide +kernel

theorem test_cmovt_V_P4 :
    runs [0x06, 0x83, 0x03, 0x01, 0x03, 0x02, 0x03, 0x03] [.r 1 0x4, .r 2 0x9, .r 3 0xffffffffffffffe0] [.r 1 0x4] = true := by
  decide +kernel

theorem test_cmp_V_P5 : runs [0x06, 0xC0, 0x03, 0x01, 0x80, 0x05] [.r 1 0x3] [.r 17 0x9] = true := by decide +kernel

theorem test_cmp_V_P7 :
    runs [0x06, 0xC0, 0x00, 0x01, 0x00, 0x02] [.r 1 0x80, .r 2 0x1] [.r 17 0x4] = true := by
  decide +kernel

theorem test_test_V_P8 :
    runs [0x06, 0xD0, 0x03, 0x01, 0x03, 0x01] [.r 1 0x0, .r 17 0x5] [.r 17 0x7] = true := by
  decide +kernel

theorem test_cmp_V_P9 : runs [0x06, 0xE3, 0x80, 0x00] [.r 3 0x0] [.r 17 0x2] = true := by decide +kernel

theorem test_test_V_P10 : runs [0x06, 0xF3, 0x80, 0x01] [.r 3 0x2] [.r 17 0x2] = true := by decide +kernel

theorem test_xchg_V_X1 :
    runs [0x20, 0x00, 0x40, 0x71, 0x03, 0x02] [.r 1 0x2000, .m 0x2000 8 0x5, .r 2 0x9] [.m 0x2000 8 0x9, .r 2 0x5] = true := by
  decide +kernel

theorem test_cmpxchg_V_X2 :
    runs [0x20, 0x10, 0x40, 0x71, 0x03, 0x02, 0x03, 0x03] [.r 1 0x2000, .m 0x2000 8 0x5, .r 2 0x5, .r 3 0x8] [.m 0x2000 8 0x8, .r 2 0x5, .f 1 true] = true := by
  decide +kernel

theorem test_cmpxchg_V_X3 :
    runs [0x20, 0x10, 0x40, 0x71, 0x03, 0x02, 0x03, 0x03] [.r 1 0x2000, .m 0x2000 8 0x5, .r 2 0x4, .r 3 0x8] [.m 0x2000 8 0x5, .r 2 0x5, .f 1 false] = true := by
  decide +kernel

theorem test_fence_V_X6 : runs [0x20, 0x30] [] [.r 16 0x1002] = true := by decide +kernel

theorem test_jz_V_J1 : runs [0x71, 0x30, 0x08, 0x00] [.r 17 0x2] [.r 16 0x100c] = true := by decide +kernel

theorem test_jz_V_J5 : faults 4 [0x70, 0x30, 0x01, 0x20] [.r 17 0x2] [.r 144 0x2001] = true := by decide +kernel

theorem test_jlt_V_J3 :
    runs [0x75, 0x40, 0xFA, 0xFF, 0xFF, 0xFF] [.r 17 0x8] [.r 16 0x1000] = true := by
  decide +kernel

theorem test_jmp_V_J9 : faults 4 [0x7C, 0x00, 0x01, 0x20] [] [.r 144 0x2001] = true := by decide +kernel

theorem test_jmp_V_J8 : runs [0x7D, 0x00, 0xFC, 0xFF] [] [.r 16 0x1000] = true := by decide +kernel

theorem test_call_V_J11 :
    runs [0x7C, 0x10, 0x00, 0x30] [] [.m 0x7FF8 8 0x1004, .r 7 0x7ff8, .r 16 0x3000] = true := by
  decide +kernel

theorem test_fcall_V_J12 : runs [0x7D, 0x20, 0x10, 0x00] [] [.r 14 0x1004, .r 16 0x1014] = true := by decide +kernel

theorem test_ret_V_J13 :
    runs [0x7C, 0x30] [.r 7 0x7ff8, .m 0x7FF8 8 0x1004] [.r 16 0x1004, .r 7 0x8000] = true := by
  decide +kernel

theorem test_fret_V_J16 : runs [0x7C, 0x8E] [.r 14 0x1004] [.r 16 0x1004] = true := by decide +kernel

theorem test_ifjmp_V_J17 : runs [0x7C, 0x8F] [.r 15 0x2000] [.r 16 0x2000] = true := by decide +kernel

theorem test_icall_V_J18 :
    runs [0x7C, 0x93] [.r 3 0x4000] [.m 0x7FF8 8 0x1002, .r 7 0x7ff8, .r 16 0x4000] = true := by
  decide +kernel

theorem test_ifcall_V_J19 : runs [0x7C, 0xA0] [.r 15 0x5000] [.r 14 0x1002, .r 16 0x5000] = true := by decide +kernel

theorem test_ijmp_V_J20 : runs [0x7D, 0x83] [.r 3 0xfffffffffffffffe] [.r 16 0x1000] = true := by decide +kernel

theorem test_jsm_V_F1 :
    runs [0x7C, 0xB0, 0x00, 0x20] [.r 0 0x300000000] [.r 18 0x300000000, .r 16 0x2000] = true := by
  decide +kernel

theorem test_jsm_V_F4 : faults 2 [0x7C, 0xB0, 0x00, 0x20] [.r 18 0x300000000, .r 0 0x0] [] = true := by decide +kernel

theorem test_callsm_V_F5 :
    runs [0x7C, 0xC8, 0x00, 0x30] [.r 0 0x300000000] [.m 0x7FF8 8 0x0, .m 0x7FF0 8 0x1004, .r 7 0x7ff0, .r 18 0x300000000, .r 16 0x3000] = true := by
  decide +kernel

theorem test_retrsm_V_F6 :
    runs [0x7C, 0xD0] [.r 7 0x7ff0, .m 0x7FF0 8 0x1004, .m 0x7FF8 8 0x0] [.r 16 0x1004, .r 18 0x0, .r 7 0x8000] = true := by
  decide +kernel

theorem test_scall_V_F8 :
    runs [0x7C, 0x40] [.r 18 0x300000000, .r 131 0x4000, .r 132 0x0, .r 133 0x2] [.r 12 0x8000, .r 13 0x300000000, .r 14 0x1002, .r 7 0x8000, .r 18 0x0, .r 16 0x4000] = true := by
  decide +kernel

theorem test_scall_V_F9 :
    runs [0x7C, 0x40] [.r 18 0x300000000, .r 17 0x2, .r 131 0x4000, .r 132 0x9000, .r 133 0x0] [.m 0x8FE0 8 0x1002, .m 0x8FE8 8 0x300000000, .m 0x8FF0 8 0x2, .m 0x8FF8 8 0x8000, .r 7 0x8fe0, .r 18 0x0, .r 16 0x4000] = true := by
  decide +kernel

theorem test_scret_V_F12 :
    runs [0xFC, 0x60] [.r 133 0x2, .r 12 0x8000, .r 13 0x300000000, .r 14 0x1002, .r 16 0x4000] [.r 16 0x1002, .r 18 0x300000000, .r 7 0x8000] = true := by
  decide +kernel

theorem test_reti_V_F14 : faults 2 [0xFC, 0x70] [.r 18 0x300000000] [] = true := by decide +kernel

theorem test_int_V_F15 :
    runs [0x7C, 0x53] [.r 128 0x2] [.r 16 0x4130, .r 7 0x7fe0, .m 0x7FE0 8 0x1002, .m 0x7FE8 8 0x0, .m 0x7FF0 8 0x0, .m 0x7FF8 8 0x8000, .r 128 0x2] = true := by
  decide +kernel

theorem test_int_V_F18 :
    runs [0x7C, 0x53] [.r 128 0x2, .r 18 0x300000000, .m 0x390 8 0x1] [.m 0x7FE8 8 0x300000000, .r 18 0x0, .r 16 0x4130] = true := by
  decide +kernel

theorem test_halt_V_S1 : runs [0x80, 0x10] [] [.r 16 0x1002] = true := by decide +kernel

theorem test_halt_V_S2 : faults 2 [0x80, 0x10] [.r 18 0x300000000] [] = true := by decide +kernel

theorem test_pcfl_V_S3 : runs [0x80, 0x20] [.r 129 0x4000] [.r 16 0x1002] = true := by decide +kernel

theorem test_in_V_S5 :
    runs [0x80, 0x61] [.r 2 0xfe80] [.r 0 0x1, .f 1 false, .f 3 false, .f 4 true] = true := by
  decide +kernel

theorem test_in_V_S6 :
    runs [0x80, 0x63] [.r 2 0x1234, .r 0 0x55] [.r 0 0x0, .f 1 true, .f 3 false, .f 4 false] = true := by
  decide +kernel

theorem test_out_V_S7 : runs [0x80, 0x73] [.r 2 0x1234, .r 0 0x55] [.r 16 0x1002] = true := by decide +kernel

theorem test_iflush_V_S8 : faults 4 [0x80, 0x50, 0x40, 0x71] [.r 1 0x2001] [.r 144 0x2001] = true := by decide +kernel

theorem test_dflush_V_S9 : runs [0x80, 0x40, 0x40, 0x71] [.r 1 0x2000] [.r 16 0x1004] = true := by decide +kernel

theorem test_flall_V_S10 : runs [0x80, 0x30] [] [.r 16 0x1002] = true := by decide +kernel

theorem test_opcode_V_S13 : faults 1 [0xFE, 0x00] [] [] = true := by decide +kernel

theorem test_opcode_V_S14 : faults 1 [0x80, 0x00] [.r 18 0x300000000] [] = true := by decide +kernel

theorem test_opcode_V_U1 : faults 1 [0x00, 0x00] [] [] = true := by decide +kernel

theorem test_opcode_V_U2 : faults 1 [0xFF, 0xFF] [] [] = true := by decide +kernel

/-! ### Witnesses: for each statement with hypotheses, states and operands that meet them -/

/-- Whether a computation answers. -/
def answers {ε α : Type} : Except ε α → Bool
  | .ok _ => true
  | .error _ => false

theorem exists_of_answers {ε α : Type} {x : Except ε α} (h : answers x = true) : ∃ a, x = .ok a := by
  cases x with
  | ok a => exact ⟨a, rfl⟩
  | error e => simp [answers] at h

/-- The next state of an outcome, or the given one. -/
def nextOf (d : State) : Host.Outcome State Fault Refusal → State
  | .next t => t
  | _ => d

/-- Whether an outcome is a next state. -/
def isNext : Host.Outcome State Fault Refusal → Bool
  | .next _ => true
  | _ => false

/-- The fault of an outcome, if it is one. -/
def faultOf : Host.Outcome State Fault Refusal → Option Fault
  | .fault f => some f
  | _ => none

/-- The refusal of an outcome, if it is one. -/
def refusalOf : Host.Outcome State Fault Refusal → Option Refusal
  | .refused r => some r
  | _ => none

theorem next_of_isNext {x : Host.Outcome State Fault Refusal} (d : State) (h : isNext x = true) :
    x = .next (nextOf d x) := by
  cases x <;> simp_all [isNext, nextOf]

/-- A fresh supervisor state with a stack, even `ip`, and room for a popped image at the stack pointer. -/
def kernel : State := { (State.reset.setR 7 0x8000) with ip := 0x1000 }

/-- The same in program mode. -/
def user : State := { kernel with mode := 3#64 <<< 32 }

/-- A machine whose machine-specific registers are plain ones. -/
def kernelWithMsrs : State := { kernel with params := { kernel.params with msrModel := .storage } }

/-- The physical addresses of `n` bytes from `a`. -/
def bytesFrom (a n : Nat) : List Nat := (List.range n).map (a + ·)

theorem witness_allowed (xm : Bool) : kernel.branchAllowed xm 0x2000 :=
  ⟨by decide, exists_of_answers (by revert xm; decide +kernel)⟩

theorem witness_RegisterOperandWrite : (0#8).toNat < 16 ∧ (15#8).toNat < 16 := by decide

theorem witness_WritebackValidation :
    (∀ r ∈ [19#8, 127, 146, 147, 155, 255], kernel.checkOperands [.reg .b8 0, .reg .b1 r] = raise .und) ∧
      (user.xm = true ∧
        ∀ r ∈ [128#8, 135, 136, 143, 144, 145, 148, 154], user.checkOperands [.reg .b8 r] = raise .prot) ∧
      (∀ r ∈ [0#8, 15, 16, 17, 18, 128, 145, 148, 154], kernel.checkOperands [.reg .b8 r] = .ok ()) ∧
      (kernel.params.msrModel = .refuse ∧ kernelWithMsrs.params.msrModel = .storage) ∧
      ([16#8, 18, 136, 143].all fun r => kernel.writebackCheck r 0 == raise .und) = true ∧
      (0x40#64 &&& ~~~0x3B#64 ≠ 0 ∧ kernel.vas < ptlOf 0x28) ∧
      ((0x20#64 &&& ~~~0x1F#64) ≠ 0 ∧ (1#64 &&& ~~~0x2#64) ≠ 0 ∧ (0x100#64 &&& ~~~0xFF#64) ≠ 0) ∧
      (148 ≤ (148#8).toNat ∧ (154#8).toNat ≤ 154) ∧
      ((1#64).getLsbD 0 = true ∧ kernel.pg = false ∧ ({ kernel with page := 1 }).page.toNat % 4096 ≠ 0) ∧
      ([0#8, 15, 17, 19, 127, 128, 129, 130, 135, 144, 147, 155, 255].all fun r => kernel.writebackCheck r 0 == .ok ()) =
        true := by
  decide +kernel

theorem witness_special_writes :
    (kernel.writeReg 128 3).syncOrder = [.pageFlush, .dataFlushAll] ∧ (kernel.writeReg 128 2).syncOrder = [] ∧
      (kernel.writeReg 128 0x18).codeView = some { cr0 := 0, page := 0 } ∧
      (kernel.writeReg 129 0x5000).page = 0x5000 ∧ (kernelWithMsrs.writeReg 154 7).msr.toList = [0, 0, 0, 0, 0, 0, 7] := by
  decide +kernel

theorem witness_MemoryOperandWrite :
    kernel.openTarget (.mem 0x2000 .b8) = .ok (.mem (bytesFrom 0x2000 8)) ∧
      kernel.openTarget (.mem 0xFFFFFFFF .b1) = .ok (.mem [0xFFFFFFFF]) := by
  decide +kernel

/-- The tables of the vectors V-T with the leaf entry of virtual page 3. -/
def paged32 (top mid leaf : Nat) : State :=
  poke (poke (poke { kernel with cr0 := 1, page := 0x4000 } 0x4000 8 top) 0x5000 8 mid) 0x6018 8 leaf

theorem witness_TranslationKeepsOffset :
    kernel.translate false .write 0xFFFFFFFF = .ok 0xFFFFFFFF ∧
      (paged32 0x5001 0x6001 0x9001).translate false .read 0x3FFF = .ok 0x9FFF := by
  decide +kernel

theorem witness_TranslationRights :
    let r := paged32 0x500D 0x600D 0x300D
    let w := paged32 0x5001 0x6001 0x3002
    let x := paged32 0x5001 0x6001 0x3003
    let q := paged32 0x500D 0x600D 0x301F
    (r.pg = true ∧ r.ptHistory = [] ∧ addressBits (ptlOf r.cr0) = some 32) ∧
      r.translate true .read 0x3005 = .ok 0x3005 ∧
      (w.pg = true ∧ w.ptHistory = [] ∧ addressBits (ptlOf w.cr0) = some 32) ∧
      w.translate false .write 0x3005 = .ok 0x3005 ∧
      (x.pg = true ∧ x.ptHistory = [] ∧ addressBits (ptlOf x.cr0) = some 32) ∧
      x.translate false .fetch 0x3004 = .ok 0x3004 ∧ q.translate true .fetch 0x3004 = .ok 0x3004 := by
  decide +kernel

theorem witness_FetchReadsMemory :
    (kernel.pg = false ∧ kernel.recent = [] ∧ kernel.codeView = none ∧ (0xFFFFFFE0#64).toNat + 2 * 16 < 2 ^ 64 ∧
      ∀ i, i < 2 * 16 → kernel.physCheck ((0xFFFFFFE0#64).toNat + i) = .valid) ∧
    (let s := paged32 0x5001 0x6001 0x9003
     s.recent = [] ∧ s.codeView = none ∧ (0x3FFC#64).getLsbD 0 = false ∧
       (∀ i, i < 2 → s.translate s.xm .fetch (0x3FFC + BitVec.ofNat 64 (2 * i)) = .ok (0x9FFC + 2 * i)) ∧
       answers (s.translate s.xm .fetch (0x3FFC + BitVec.ofNat 64 (2 * 2))) = false) := by
  decide +kernel

theorem witness_ArithmeticFlags :
    (1#64).toNat < 2 ^ 1 ∧ (0#64).toNat < 2 ^ 1 ∧ (0xFFFFFFFFFFFFFFFF#64).toNat < 2 ^ 64 := by decide

/-- Byte register 1, byte register 2, and 8 bytes of memory at register 0. -/
def r1b : Operand := .reg .b1 1
def r2b : Operand := .reg .b1 2
def r1d : Operand := .reg .b8 1
def memAtR0 : Operand := .ind 0 0 true .b8 0

theorem witness_CompareThenCondition :
    let nip := kernel.nip2 r1b r2b
    kernel.checkOperands [r1b, r2b] = .ok () ∧ (kernel.place nip r1b).isImm = false ∧
      ¬((kernel.place nip r1b).isMem = true ∧ (kernel.place nip r2b).isMem = true) ∧
      kernel.readPlace nip (kernel.place nip r1b) = .ok 0 ∧ kernel.readPlace nip (kernel.place nip r2b) = .ok 0 := by
  decide +kernel

theorem alu_ready : kernel.AluReady false r1b r2b 0 0 (.reg 1 .b1) :=
  ⟨by decide, by decide, by decide, by decide, by decide, by decide, by decide, by decide⟩

theorem alu_ready_locked : kernel.AluReady true memAtR0 (.short false 5) 0 5 (.mem (bytesFrom 0 8)) :=
  ⟨by decide, by decide, by decide, by decide, by decide, by decide, by decide +kernel, by decide +kernel⟩

theorem witness_AluTwoOperand :
    kernel.AluReady false r1b r2b 0 0 (.reg 1 .b1) ∧ (∀ v, kernel.checkTarget v (.reg 1 .b1) = .ok ()) ∧
      kernel.AluReady true memAtR0 (.short false 5) 0 5 (.mem (bytesFrom 0 8)) ∧
      ∀ v, kernel.checkTarget v (.mem (bytesFrom 0 8)) = .ok () :=
  ⟨alu_ready, fun _ => rfl, alu_ready_locked, fun _ => rfl⟩

theorem witness_read :
    kernel.checkOperands [r1d] = .ok () ∧ kernel.readPlace (kernel.nip1 r1d) (kernel.place (kernel.nip1 r1d) r1d) = .ok 0 := by
  decide +kernel

theorem target_ready : kernel.TargetReady r1d 0 (.reg 1 .b8) := ⟨by decide, by decide, by decide, by decide, by decide⟩

theorem witness_AluWithGpr :
    (kernel.checkOperands [r1d] = .ok () ∧
      kernel.readPlace (kernel.nip1 r1d) (kernel.place (kernel.nip1 r1d) r1d) = .ok 0) ∧
      kernel.TargetReady r1d 0 (.reg 1 .b8) ∧ ∀ v, kernel.checkTarget v (.reg 1 .b8) = .ok () :=
  ⟨witness_read, target_ready, fun _ => rfl⟩

theorem witness_Divide :
    (kernel.r 3).toNat % 2 ^ Size.b1.bits = 0 ∧ ((kernel.setR 3 0xFF).r 3).toNat % 2 ^ Size.b1.bits ≠ 0 ∧
      ((kernel.setR 3 0x100).r 3).toNat % 2 ^ Size.b1.bits = 0 := by
  decide

theorem move_ready : kernel.MoveReady r1b r2b 0 (.reg 1 .b1) :=
  ⟨by decide, by decide, by decide, by decide, by decide, by decide⟩

theorem witness_Moves :
    kernel.MoveReady r1b r2b 0 (.reg 1 .b1) ∧ kernel.checkTarget (truncBits 8 0) (.reg 1 .b1) = .ok () ∧
      (let nip := kernel.nip1 r1d
       (kernel.place nip r1d).isRegister 16 = false ∧ (kernel.place nip r1d).isRegister 17 = false ∧
         kernel.openTarget (kernel.place nip r1d) = .ok (.reg 1 .b8) ∧
         kernel.checkTarget (truncBits 64 (kernel.r 2)) (.reg 1 .b8) = .ok ()) ∧
      (let nip := kernel.nip2 r1d memAtR0
       kernel.checkOperands [r1d, memAtR0] = .ok () ∧ kernel.place nip memAtR0 = .mem 0 .b8 ∧ (1#8 ≠ 16 ∧ 1#8 ≠ 17) ∧
         kernel.writebackCheck 1 (truncBits 64 0) = .ok ()) ∧
      (kernel.checkOperands [memAtR0] = .ok () ∧ kernel.place (kernel.nip1 memAtR0) memAtR0 = .mem 0 .b8) :=
  ⟨move_ready, by decide, by decide, by decide, by decide⟩

theorem witness_Push :
    kernel.translateRange kernel.xm .write (kernel.sp - 8) 8 = .ok (bytesFrom 0x7FF8 8) ∧
      kernel.checkOperands [r1d] = .ok () ∧
      kernel.readPlace (kernel.nip1 r1d) (kernel.place (kernel.nip1 r1d) r1d) = .ok 0 := by
  decide +kernel

theorem witness_PopFromStack :
    kernel.translateRange kernel.xm .read kernel.sp 8 = .ok (bytesFrom 0x8000 8) ∧
      (let p := kernel.place (kernel.nip1 r1d) r1d
       kernel.checkOperands [r1d] = .ok () ∧ p.bits = 64 ∧ p.isRegister 16 = false ∧
         kernel.openTarget p = .ok (.reg 1 .b8) ∧
         kernel.checkTarget (kernel.loadWord (bytesFrom 0x8000 8)) (.reg 1 .b8) = .ok ()) := by
  decide +kernel

theorem witness_StoreRegisters :
    kernel.checkOperands [memAtR0] = .ok () ∧ kernel.place (kernel.nip1 memAtR0) memAtR0 = .mem 0 .b8 ∧
      kernel.translateRange kernel.xm .write 0 128 = .ok (bytesFrom 0 128) ∧
      kernel.translateRange kernel.xm .write 0 1024 = .ok (bytesFrom 0 1024) ∧
      kernel.translateRange kernel.xm .write (kernel.sp - 128) 128 = .ok (bytesFrom 0x7F80 128) ∧
      kernel.translateRange kernel.xm .write (kernel.sp - 1024) 1024 = .ok (bytesFrom 0x7C00 1024) := by
  decide +kernel

theorem bytes_of_nothing (pas : List Nat) : leValue (pas.map (Memory.get [])) = 0 := by
  induction pas with
  | nil => rfl
  | cons a pas ih => rw [List.map_cons, leValue, ih]; rfl

theorem slots_of_nothing (pas : List Nat) (i : Nat) : kernel.loadSlot pas i = 0 := by
  have h : kernel.load ((pas.drop (8 * i)).take 8) = 0 := bytes_of_nothing _
  simp [State.loadSlot, h]

theorem witness_RestoreRegisters :
    kernel.checkOperands [memAtR0] = .ok () ∧ kernel.place (kernel.nip1 memAtR0) memAtR0 = .mem 0 .b8 ∧
      kernel.translateRange kernel.xm .read 0 128 = .ok (bytesFrom 0 128) ∧
      kernel.translateRange kernel.xm .read kernel.sp 128 = .ok (bytesFrom 0x8000 128) ∧
      kernel.translateRange kernel.xm .read 0 1024 = .ok (bytesFrom 0 1024) ∧
      kernel.translateRange kernel.xm .read kernel.sp 1024 = .ok (bytesFrom 0x8000 1024) ∧
      (∀ i, 19 ≤ i → i < 128 → kernel.loadSlot (bytesFrom 0 1024) i = 0) ∧
      (kernel.xm = false ∧ kernel.loadSlot (bytesFrom 0 1024) 18 = 0) ∧
      user.xm = true :=
  ⟨by decide, by decide, by decide +kernel, by decide +kernel, by decide +kernel, by decide +kernel,
    fun _ _ _ => slots_of_nothing _ _, ⟨by decide, slots_of_nothing _ _⟩, by decide⟩

theorem witness_ReservedSlotsRefused :
    let full := fun k => poke kernel (8 * k) 8 1
    (∀ k ∈ [19, 127], (full k).loadSlot (bytesFrom 0 1024) k ≠ 0) ∧
      (∀ k ∈ [146, 147, 155, 255], (full k).loadSlot (bytesFrom 0 2048) k ≠ 0) ∧
      (full 19).checkOperands [memAtR0] = .ok () ∧
      (full 19).place ((full 19).nip1 memAtR0) memAtR0 = .mem 0 .b8 ∧
      (full 19).translateRange (full 19).xm .read 0 1024 = .ok (bytesFrom 0 1024) ∧
      (full 19).translateRange (full 19).xm .read 0 2048 = .ok (bytesFrom 0 2048) ∧
      (poke kernel 0x8098 8 1).translateRange kernel.xm .read kernel.sp 1024 = .ok (bytesFrom 0x8000 1024) ∧
      (poke kernel 0x8098 8 1).loadSlot (bytesFrom 0x8000 1024) 19 ≠ 0 := by
  decide +kernel

theorem convert_ready : kernel.MoveReady r1d r2b 0 (.reg 1 .b8) :=
  ⟨by decide, by decide, by decide, by decide, by decide, by decide⟩

theorem witness_ConvertingMoves :
    kernel.MoveReady r1b r2b 0 (.reg 1 .b1) ∧ kernel.MoveReady r1d r2b 0 (.reg 1 .b8) ∧
      ∀ z v, kernel.checkTarget v (.reg 1 z) = .ok () :=
  ⟨move_ready, convert_ready, fun _ _ => rfl⟩

theorem shift_ready (q : BitVec 12) : kernel.AluReady false r1b (.short false q) 0 (q.setWidth 64) (.reg 1 .b1) :=
  ⟨rfl, .inl rfl, (fun h => by cases h), rfl, rfl, rfl, rfl, rfl⟩

theorem witness_ShiftsAndRotates :
    (∀ q, kernel.AluReady false r1b (.short false q) 0 (q.setWidth 64) (.reg 1 .b1)) ∧
      (∀ v, kernel.checkTarget v (.reg 1 .b1) = .ok ()) ∧
      ((0#12).setWidth 64).toNat ≤ 8 ∧ ((8#12).setWidth 64).toNat ≤ 8 :=
  ⟨shift_ready, fun _ => rfl, by decide, by decide⟩

theorem witness_GprShiftsAndRotates :
    kernel.checkOperands [.short false 64] = .ok () ∧
      kernel.readPlace (kernel.nip1 (.short false 64)) (kernel.place (kernel.nip1 (.short false 64)) (.short false 64)) =
        .ok 64 := by
  decide

theorem witness_ShiftsPastTheWidth :
    kernel.AluReady false r1b (.short false 9) 0 9 (.reg 1 .b1) ∧ (∀ v, kernel.checkTarget v (.reg 1 .b1) = .ok ()) ∧
      (kernel.place (kernel.nip2 r1b (.short false 9)) r1b).bits < (9#64).toNat ∧
      (kernel.checkOperands [.short false 65] = .ok () ∧
        kernel.readPlace (kernel.nip1 (.short false 65)) (kernel.place (kernel.nip1 (.short false 65)) (.short false 65)) =
          .ok 65 ∧ 64 < (65#64).toNat) :=
  ⟨shift_ready 9, fun _ => rfl, by decide, by decide⟩

theorem witness_UnaryOperations :
    kernel.TargetReady r1d 0 (.reg 1 .b8) ∧ ∀ v, kernel.checkTarget v (.reg 1 .b8) = .ok () := ⟨target_ready, fun _ => rfl⟩

theorem witness_ConditionalMoves :
    (∀ nip,
      (kernel.place nip r1b).isImm = false ∧
        ¬((kernel.place nip r1b).isMem = true ∧ (kernel.place nip r2b).isMem = true) ∧
        (kernel.place nip r1b).isRegister 16 = false ∧ (kernel.place nip r1b).isRegister 18 = false ∧
        kernel.readPlace nip (kernel.place nip r2b) = .ok 0 ∧ kernel.openTarget (kernel.place nip r1b) = .ok (.reg 1 .b1) ∧
        kernel.readRegister nip 1 .b8 = .ok 0) ∧
      kernel.checkOperands [r1b, r2b] = .ok () ∧ condHolds .nz kernel.flags = true ∧ condHolds .z kernel.flags = false ∧
      kernel.checkTarget (truncBits 8 0) (.reg 1 .b1) = .ok () ∧ kernel.checkOperands [r1b, r2b, r1d] = .ok () ∧
      condHolds .nz 0 = true ∧ condHolds .z 0 = false :=
  ⟨fun _ => ⟨rfl, (fun h => by cases h.1), rfl, rfl, rfl, rfl, rfl⟩, by decide, by decide, by decide, rfl, by decide, by decide,
    by decide⟩

theorem witness_CompareAndTest :
    (let nip := kernel.nip2 r1b r2b
     kernel.checkOperands [r1b, r2b] = .ok () ∧ (kernel.place nip r1b).isImm = false ∧
       ¬((kernel.place nip r1b).isMem = true ∧ (kernel.place nip r2b).isMem = true) ∧
       kernel.readPlace nip (kernel.place nip r1b) = .ok 0 ∧ kernel.readPlace nip (kernel.place nip r2b) = .ok 0) ∧
      kernel.checkOperands [r1d] = .ok () ∧
      kernel.readPlace (kernel.nip1 r1d) (kernel.place (kernel.nip1 r1d) r1d) = .ok 0 := by
  decide +kernel

theorem witness_Exchange :
    let nip := kernel.nip2 memAtR0 r1d
    kernel.checkOperands [memAtR0, r1d] = .ok () ∧
      kernel.AtomicReady nip memAtR0 r1d (.mem (bytesFrom 0 8)) (.reg 1 .b8) ∧
      kernel.readTarget nip (.mem (bytesFrom 0 8)) = .ok 0 ∧ kernel.readTarget nip (.reg 1 .b8) = .ok 0 ∧
      (∀ v, kernel.checkTarget v (.mem (bytesFrom 0 8)) = .ok ()) ∧ ∀ v, kernel.checkTarget v (.reg 1 .b8) = .ok () :=
  ⟨by decide, ⟨by decide, by decide, by decide, by decide +kernel, by decide⟩, by decide +kernel, by decide, fun _ => rfl,
    fun _ => rfl⟩

theorem witness_CompareExchange :
    (∀ s ∈ [kernel, kernel.setR 1 5],
      let nip := s.nip3 memAtR0 r1d r2b
      s.checkOperands [memAtR0, r1d, r2b] = .ok () ∧ s.openTarget (s.place nip memAtR0) = .ok (.mem (bytesFrom 0 8)) ∧
        s.openTarget (s.place nip r1d) = .ok (.reg 1 .b8) ∧ s.readTarget nip (.mem (bytesFrom 0 8)) = .ok 0 ∧
        s.readTarget nip (.reg 1 .b8) = .ok (s.r 1) ∧ s.readPlace nip (s.place nip r2b) = .ok 0) ∧
      kernel.AtomicReady (kernel.nip3 memAtR0 r1d r2b) memAtR0 r1d (.mem (bytesFrom 0 8)) (.reg 1 .b8) ∧
      (kernel.r 1 = 0 ∧ (kernel.setR 1 5).r 1 ≠ 0) ∧
      (∀ v, kernel.checkTarget v (.mem (bytesFrom 0 8)) = .ok ()) ∧ ∀ v, kernel.checkTarget v (.reg 1 .b8) = .ok () :=
  ⟨by decide +kernel, ⟨by decide, by decide, by decide, by decide +kernel, by decide⟩, by decide, fun _ => rfl,
    fun _ => rfl⟩

theorem witness_FenceAndFlushes :
    kernel.xm = false ∧ kernel.page.toNat % 4096 = 0 ∧ ({ kernel with page := 0x4001 }).page.toNat % 4096 ≠ 0 := by decide

theorem witness_ConditionalBranches :
    conditionalBranch (.jzAbs16 0 0x2000) = some (.z, false, .i16 0x2000) ∧ condHolds .z kernel.flags = false ∧
      condHolds .nz kernel.flags = true ∧ kernel.destination false (.i16 0x2000) = 0x2000 ∧
      kernel.branchAllowed kernel.xm 0x2000 :=
  ⟨rfl, by decide, by decide, by decide, witness_allowed _⟩

theorem witness_Jumps :
    (∀ i : Fin 16, (kernel.setR i.val 0x2000).r i.val = 0x2000) ∧ kernel.branchAllowed kernel.xm 0x2000 ∧
      kernel.destination true (.i16 0xFFC) = 0x2000 ∧ kernel.branchAllowed kernel.xm (kernel.destination true (.i16 0xFFC)) ∧
      kernel.translateRange kernel.xm .read kernel.sp 8 = .ok (bytesFrom 0x8000 8) ∧
      kernel.branchAllowed kernel.xm (kernel.loadWord (bytesFrom 0x8000 8)) :=
  ⟨by decide +kernel, witness_allowed _, by decide +kernel, ⟨by decide +kernel, exists_of_answers (by decide +kernel)⟩,
    by decide +kernel, ⟨by decide +kernel, exists_of_answers (by decide +kernel)⟩⟩

theorem witness_Calls :
    kernel.translateRange kernel.xm .write (kernel.sp - 8) 8 = .ok (bytesFrom 0x7FF8 8) ∧
      kernel.branchAllowed kernel.xm (kernel.destination false (.i16 0x2000)) ∧ kernel.branchAllowed kernel.xm (kernel.r 3) :=
  ⟨by decide +kernel, witness_allowed _, by decide, exists_of_answers (by decide +kernel)⟩

theorem witness_BranchFaults :
    (0x2001#64).getLsbD 0 = true ∧ (0x100000000#64).getLsbD 0 = false ∧
      (∃ f, kernel.translateRange kernel.xm .fetch 0x100000000 1 = .error f) ∧
      kernel.destination false (.i64 0x100000000) = 0x100000000 ∧ condHolds .nz kernel.flags = true ∧
      conditionalBranch (.jnzAbs64 0 0x100000000) = some (.nz, false, .i64 0x100000000) ∧
      kernel.translateRange kernel.xm .write (kernel.sp - 8) 8 = .ok (bytesFrom 0x7FF8 8) ∧
      kernel.translateRange kernel.xm .read kernel.sp 8 = .ok (bytesFrom 0x8000 8) :=
  ⟨by decide, by decide, ⟨_, rfl⟩, by decide, by decide, rfl, by decide +kernel, by decide +kernel⟩

/-- A return frame at the stack pointer: address 0x2000 and the given mode. -/
def framed (m : Nat) : State := poke (poke kernel 0x8000 8 0x2000) 0x8008 8 m

theorem witness_ModeTransfers :
    (kernel.xm = false ∧ kernel.r 0 = 0) ∧ (user.xm = true ∧ 3#64 <<< 32 >>> 32 = user.mode >>> 32) ∧
      kernel.translateRange kernel.xm .write (kernel.sp - BitVec.ofNat 64 8) 8 = .ok (bytesFrom 0x7FF8 8) ∧
      kernel.translateRange kernel.xm .write (kernel.sp - BitVec.ofNat 64 16) 16 = .ok (bytesFrom 0x7FF0 16) ∧
      (kernel.branchAllowed ((0#64).getLsbD 32) 0x2000 ∧ kernel.branchAllowed ((3#64 <<< 32).getLsbD 32) 0x2000) ∧
      (framed 0x300000000).translateRange (framed 0x300000000).xm .read (framed 0x300000000).sp 16 =
        .ok (bytesFrom 0x8000 16) ∧
      (framed 0x300000000).loadSlot (bytesFrom 0x8000 16) 1 = 3#64 <<< 32 ∧
      (framed 0x300000000).loadSlot (bytesFrom 0x8000 16) 0 = 0x2000 :=
  ⟨by decide, by decide, by decide +kernel, by decide +kernel, ⟨witness_allowed _, witness_allowed _⟩, by decide +kernel,
    by decide +kernel, by decide +kernel⟩

theorem witness_ModeChecks :
    (∀ s ∈ [kernel, user], s.translateRange s.xm .read s.sp 16 = .ok (bytesFrom 0x8000 16)) ∧
      (1#64).getLsbD 0 = true ∧ (0x8000000000000000#64).getLsbD 63 = true ∧
      (∀ k : Fin 64, k.val ≠ 32 → k.val ≠ 33 → (0x100000000#64).getLsbD k = false) ∧
      (kernel.xm = false ∧ (0x100000000#64).getLsbD 32 ≠ (0x100000000#64).getLsbD 33) ∧
      (user.xm = true ∧ 0#64 >>> 32 ≠ user.mode >>> 32) := by
  decide +kernel

theorem witness_SupervisorCall :
    kernel.xm = false ∧ (user.xm = true ∧ user.scdp = 0) ∧
      (let u := { user with scdp := 0x2000, scsp := 0x9000 }
       u.xm = true ∧ u.scdp ≠ 0 ∧ u.branchAllowed false u.scdp ∧ u.sccr.getLsbD 1 = false ∧
         u.translateRange false .write (u.scsp - 32) 32 = .ok (bytesFrom 0x8FE0 32)) ∧
      ({ user with scdp := 0x2000, sccr := 2 }).sccr.getLsbD 1 = true :=
  ⟨by decide, by decide, ⟨by decide, by decide, ⟨by decide, exists_of_answers (by decide +kernel)⟩, by decide,
    by decide +kernel⟩, by decide⟩

theorem witness_SoftwareInterrupt :
    kernel.ie = false ∧
      (let e := { kernel with cr0 := 2 }
       e.ie = true ∧ e.tableEntry (16 + (15#4).toNat) = .error .outOfBounds) ∧
      (let e := { setup with cr0 := 2 }
       e.ie = true ∧ e.xm = false ∧ e.tableEntry (16 + (3#4).toNat) = .ok { handler := 0x4130, stack := 0, px := false }) ∧
      (let e := poke { setup with cr0 := 2, mode := 3#64 <<< 32 } 0x390 8 1
       e.xm = true ∧ e.tableEntry (16 + (3#4).toNat) = .ok { handler := 0x4130, stack := 0, px := true } ∧
         e.tableEntry (16 + (0#4).toNat) = .ok { handler := 0, stack := 0, px := false }) := by
  decide +kernel

/-- A state whose interrupt table is at 0x200 with entries 0 to 16, entry 6 with a handler and entry 7 with an odd one. -/
def tableAt200 : State := poke (poke (poke { kernel with itabp := 0x200 } 0x200 8 0x220) 0x2E0 8 0x4060) 0x300 8 0x4071

theorem witness_DeliveryCompletes :
    (setup.tableEntry 6 = .ok { handler := 0x4060, stack := 0, px := false } ∧ setup.branchAllowed false 0x4060 ∧
      setup.translateRange false .write (setup.sp - 32) 32 = .ok (bytesFrom 0x7FE0 32)) ∧
      ({ kernel with itabp := 8 }).itabp.toNat % 32 ≠ 0 ∧
      (tableAt200.tableEntry 17 = .error .outOfBounds ∧ kernel.tableEntry 0 = .error .outOfBounds) ∧
      (tableAt200.tableEntry 7 = .ok { handler := 0x4071, stack := 0, px := false } ∧ (0x4071#64).getLsbD 0 = true) ∧
      ({ kernel with itabp := 0xFFFFFFFFFFFFFFE0 }).tableEntry 16 = .error .unserviceable ∧
      (tableAt200.tableEntry 0 = .ok { handler := 0, stack := 0, px := false } ∧
        answers (tableAt200.translateRange false .fetch 0 1) = true ∧
        tableAt200.translateRange false .write (tableAt200.sp - 32) 32 = .ok (bytesFrom 0x7FE0 32)) ∧
      (let s := { tableAt200 with gpr := tableAt200.gpr.set 7 0x100000000 }
       s.tableEntry 16 = .ok { handler := 0, stack := 0, px := false } ∧
         answers (s.translateRange false .write (s.sp + 32 - 32) 32) = false) :=
  ⟨⟨by decide +kernel, ⟨by decide, exists_of_answers (by decide +kernel)⟩, by decide +kernel⟩, by decide +kernel,
    by decide +kernel, by decide +kernel, by decide +kernel, by decide +kernel, by decide +kernel⟩

theorem witness_ExceptionEntry : kernel.pfcharp = 0 := rfl

theorem witness_PageFaultRecord :
    (let s := { kernel with pfcharp := 0x9010 }
     s.pfcharp ≠ 0 ∧ s.pfcharp.toNat % 16 = 0 ∧
       { s with fcode := 0x2000 }.translateRange false .write s.pfcharp 16 = .ok (bytesFrom 0x9010 16)) ∧
      (let s := { kernel with pfcharp := 0x9008 }
       s.pfcharp ≠ 0 ∧ s.pfcharp.toNat % 16 ≠ 0) ∧
      (let s := { kernel with pfcharp := 0x100000000 }
       s.pfcharp ≠ 0 ∧ s.pfcharp.toNat % 16 = 0 ∧
         answers ({ s with fcode := 0x2000 }.translateRange false .write s.pfcharp 16) = false) := by
  decide +kernel

theorem witness_ExceptionReturn :
    (let s := framed 0x300000000
     s.xm = false ∧ s.translateRange s.xm .read s.sp 32 = .ok (bytesFrom 0x8000 32) ∧
       s.loadSlot (bytesFrom 0x8000 32) 1 = 3#64 <<< 32 ∧ s.loadSlot (bytesFrom 0x8000 32) 0 = 0x2000 ∧
       s.branchAllowed true 0x2000 ∧ s.sccr.getLsbD 1 = false) ∧
      (let s := { kernel with sccr := 2 }.setR 14 0x2000
       s.sccr.getLsbD 1 = true ∧ s.r 14 = 0x2000 ∧ s.branchAllowed ((s.r 13).getLsbD 32) 0x2000) :=
  ⟨⟨by decide, by decide +kernel, by decide +kernel, by decide +kernel, ⟨by decide, exists_of_answers (by decide +kernel)⟩,
    by decide⟩, by decide, by decide, by decide, exists_of_answers (by decide +kernel)⟩

theorem witness_SupervisorOpcodes :
    (∀ i ∈ [Instr.halt, .reti, .pcfl], privileged i = true) ∧ user.xm = true ∧ machineOpcode (.machineFe0 1) = some 0xFE0 ∧
      machineOpcode (.machineFfe 15) = some 0xFFE ∧ 0xFE0#12 ∉ kernel.params.machineInsn ∧
      (let p := { kernel.params with machineInsn := [0xFE0] }
       0xFE0#12 ∈ p.machineInsn ∧ ({ kernel with params := p }).xm = false ∧ ({ user with params := p }).xm = true) := by
  decide

theorem witness_Halt :
    kernel.xm = false ∧ ({ kernel with halted := true }).halted = true ∧ ({ kernel with halted := true }).nextEvent = none := by
  decide +kernel

theorem witness_AddressFlushes :
    kernel.xm = false ∧ kernel.checkOperands [memAtR0] = .ok () ∧
      kernel.place (kernel.nip1 memAtR0) memAtR0 = .mem 0 .b8 ∧
      kernel.translateRange kernel.xm .read 0 Size.b8.bytes = .ok (bytesFrom 0 8) ∧ (0#64).getLsbD 0 = false ∧
      (kernel.setR 0 1).place ((kernel.setR 0 1).nip1 memAtR0) memAtR0 = .mem 1 .b8 ∧ (1#64).getLsbD 0 = true := by
  decide +kernel

/-- A machine with two CPUs and a device of its own, whose CPU 1 has a start-up block at 0x4000 that is all 0. -/
def twoCpus : State :=
  { kernel with
    params := { kernel.params with ncpu := 2, ioDevices := [(0x100000000, 16)] }
    loadPointer := kernel.loadPointer.set 1 0x4000 }

/-- The start-up block of `twoCpus`. -/
abbrev startBlock : List Nat := (List.range 2048).map (0x4000 + ·)

theorem noDevice_iff_absent :
    (∀ a ∈ [0x7EFF, 0x7F80, 0xFE7F, 0xFE81, 0xFEFF, 0x10000, 0xFFFFFFFF, 0x100000010, 0x7F02, 0xFF02, 0xFFFF],
      twoCpus.device (BitVec.ofNat 64 a) = .absent) ∧
      twoCpus.device 0x100000000 = .machine ∧ twoCpus.device 0x10000000F = .machine ∧
      twoCpus.device 0xFF01 = .loadPointer 1 ∧ twoCpus.device 0xFF81 = .enableWord 1 := by
  decide +kernel

theorem witness_DeviceRead :
    kernel.xm = false ∧ kernel.noDevice 0x7EFF ∧ kernel.noDevice 0xFE7F ∧ kernel.noDevice 0x10000 ∧
      kernel.noDevice (2 ^ 32) ∧ kernel.noDevice 0xFF81 ∧ ((kernel.setR 2 0xfe80).r 2).toNat = 0xfe80 ∧
      (0 < kernel.params.ncpu ∧ ((kernel.setR 2 0xff00).r 2).toNat = 0xff00 + 0) ∧
      (1 < twoCpus.params.ncpu ∧ twoCpus.cpuActive 1 = false) :=
  ⟨by decide, .inl (by decide), .inr (.inl (by decide)), .inr (.inr (.inl (by decide))),
    .inr (.inr (.inr (.inl ⟨by decide, fun r h => by cases h⟩))),
    .inr (.inr (.inr (.inr ⟨1, by decide, by decide, .inr (.inr rfl)⟩))), by decide, by decide, by decide⟩

theorem witness_DeviceWrite :
    twoCpus.xm = false ∧ 1 < twoCpus.params.ncpu ∧ twoCpus.cpuEnabled 1 = false ∧ twoCpus.cpuEnabled 0 = true ∧
      (0xFFFFFFFF#64).toNat < 2 ^ (32 + 4 * twoCpus.pas) ∧ 2 ^ (32 + 4 * twoCpus.pas) ≤ (0x100000000#64).toNat ∧
      twoCpus.cpuActive 1 = false ∧ ({ twoCpus with enableWord := twoCpus.enableWord.set 1 1 }).cpuEnabled 1 = true ∧
      ({ twoCpus with enableWord := twoCpus.enableWord.set 1 1 }).cpuActive 1 = false ∧
      ((2#64).toNat % 4 = 2 ∧ (0x101#64).getLsbD 0 = true ∧ field (0x101#64) 8 48 ≠ 0) ∧
      ((3#64).toNat % 4 ≠ 2 ∧ (3#64).getLsbD 0 = true ∧ field (3#64) 8 48 = 0 ∧ field (0xFF00000000000003#64) 8 48 = 0) ∧
      ((7#64).toNat % 4 = 3 ∧ (0xFF#64).toNat % 4 = 3 ∧ (0xFF#64).toNat < 256 ∧ (1#64).toNat % 4 ≠ 3) ∧
      (∀ i, i < 64 → kernel.physCheck ((0xFFFFFFC0#64).toNat + i) = .valid) ∧
      (kernel.physCheck ((0xFFFFFFC1#64).toNat + 63) ≠ .valid ∧
        ∀ j, j < 63 → kernel.physCheck ((0xFFFFFFC1#64).toNat + j) = .valid) := by
  decide +kernel

theorem witness_start_up :
    twoCpus.loadPointer[1] = 0x4000 ∧ (∀ p ∈ startBlock, twoCpus.physCheck p = .valid) ∧
      (∀ i, twoCpus.loadSlot startBlock i = 0) ∧ ptlOf 0 ≤ otherVas 1 ∧
      (poke twoCpus 0x4440 8 1).loadSlot startBlock 136 ≠ 0 ∧ (poke twoCpus 0x47F8 8 1).loadSlot startBlock 255 ≠ 0 ∧
      (poke twoCpus 0x4080 8 1).loadSlot startBlock 16 = 1 ∧
      ({ twoCpus with loadPointer := kernel.loadPointer.set 1 0xFFFFFFFF }).physCheck (0xFFFFFFFF + 1) ≠ .valid :=
  ⟨by decide, by decide +kernel, fun i => slots_of_nothing _ i, Nat.zero_le _, by decide +kernel, by decide +kernel,
    by decide +kernel, by decide⟩

theorem witness_StoreRegisterFile :
    kernel.xm = false ∧ kernel.checkOperands [memAtR0] = .ok () ∧
      kernel.place (kernel.nip1 memAtR0) memAtR0 = .mem 0 .b8 ∧
      kernel.translateRange kernel.xm .write 0 2048 = .ok (bytesFrom 0 2048) := by
  decide +kernel

theorem witness_RestoreRegisterFile :
    kernel.xm = false ∧ kernel.checkOperands [memAtR0] = .ok () ∧
      kernel.place (kernel.nip1 memAtR0) memAtR0 = .mem 0 .b8 ∧
      kernel.translateRange kernel.xm .read 0 2048 = .ok (bytesFrom 0 2048) ∧
      (∀ i, i < 256 → kernel.loadSlot (bytesFrom 0 2048) i = 0) ∧ ptlOf 0 ≤ kernel.vas ∧
      (poke kernel 0x400 8 0x40).loadSlot (bytesFrom 0 2048) 128 = 0x40 ∧ 0x40 &&& ~~~0x3B#64 ≠ 0 ∧
      (poke kernel 0x408 8 0x5000).loadSlot (bytesFrom 0 2048) 129 = 0x5000 ∧ kernel.page ≠ 0x5000 :=
  ⟨by decide, by decide, by decide, by decide +kernel, fun _ _ => slots_of_nothing _ _, by decide, by decide +kernel,
    by decide, by decide +kernel, by decide⟩

theorem witness_UndefinedOpcodes : ∀ i ∈ [Instr.und000 15, .undFFF 0], alwaysUndefined i = true := by decide

theorem witness_EventsTaken :
    kernel.eventsHeld = false ∧
      (let s := { kernel with injected := 63 }
       s.injected ≠ 0 ∧ s.halted = false ∧ 16 ≤ s.injected.toNat) ∧
      (({ kernel with injected := 2 }).injected = 2 ∧ kernel.injected = 0 ∧ kernel.pendingNmi = false) ∧
      ({ kernel with pendingNmi := true }).pendingNmi = true ∧
      (let s := { kernel with cr0 := 2, pendingIrq := 0x80000000 }
       s.ie = true ∧ s.pendingIrq.getLsbD 31 = true ∧ ∀ j, j < 31 → s.pendingIrq.getLsbD j = false) ∧
      kernel.ie = false := by
  decide +kernel

/-- A state with `out` at `ip`, which writes a load pointer of an enabled CPU, and one with `add msr0, r0`. -/
def outAtIp : State := (poke (kernel.setR 2 0xff00) 0x1000 2 0x7380)
def msrAtIp : State := poke kernel 0x1000 6 0x000394031000

def nopAtIp : State := poke kernel 0x1000 2 0x0001

theorem witness_StepRunsDecoded :
    ((nopAtIp.nextEvent = none ∧ nopAtIp.halted = false ∧ nopAtIp.ip.getLsbD 0 = false) ∧
      (decode (nopAtIp.fetchBytes maxUnits nopAtIp.ip).1).map Prod.fst = .ok .nop ∧ isNext (exec .nop nopAtIp) = true) ∧
      ((outAtIp.nextEvent = none ∧ outAtIp.halted = false ∧ outAtIp.ip.getLsbD 0 = false) ∧
        (decode (outAtIp.fetchBytes maxUnits outAtIp.ip).1).map Prod.fst = .ok (.ioOut .b8) ∧
        faultOf (exec (.ioOut .b8) outAtIp) = some .undefinedCpuControl) ∧
      ((msrAtIp.nextEvent = none ∧ msrAtIp.halted = false ∧ msrAtIp.ip.getLsbD 0 = false) ∧
        (decode (msrAtIp.fetchBytes maxUnits msrAtIp.ip).1).map Prod.fst =
          .ok (.add false false (.reg .b8 148) (.reg .b8 0)) ∧
        refusalOf (exec (.add false false (.reg .b8 148) (.reg .b8 0)) msrAtIp) = some (.machineSpecificRegister 148)) := by
  decide +kernel

/-- The hypotheses of a step that takes the exception of its fetch: the decoding error of the bytes at `ip`. -/
def decodeErrorOf (s : State) : Option DecodeError :=
  match s.nextEvent, s.halted, s.ip.getLsbD 0, decode (s.fetchBytes maxUnits s.ip).1 with
  | none, false, false, .error e => some e
  | _, _, _, _ => none

/-- The last unit of the 32-bit address space, where the fetch of a second one fails. -/
def atEnd (s : State) (v : Nat) : State := poke { s with ip := 0xFFFFFFFE } 0xFFFFFFFE 2 v

/-- A state whose mapping has moved the page of `ip` since the last taken branch. -/
def moved : State := { paged32 0x5001 0x6001 0x9003 with ip := 0x3000, codeView := some kernel.enteredView }

theorem witness_StepRunsDecoded_exceptions :
    (let s := { kernel with ip := 0x1001 }; s.nextEvent = none ∧ s.halted = false ∧ s.ip.getLsbD 0 = true) ∧
      decodeErrorOf (poke kernel 0x1000 2 0x00FD) = some .undefinedOpcode ∧
      decodeErrorOf (poke kernel 0x1000 2 0x0101) = some .reservedH ∧
      decodeErrorOf (poke kernel 0x1000 4 0x00FC1001) = some .malformedOperand ∧
      decodeErrorOf (poke user 0x1000 4 0x00FC4080) = some .malformedOperand ∧
      startsSupervisor ((poke user 0x1000 4 0x00FC4080).fetchBytes maxUnits 0x1000).1 = true ∧
      decodeErrorOf (atEnd user 0x4080) = some .truncated ∧
      startsSupervisor ((atEnd user 0x4080).fetchBytes maxUnits 0xFFFFFFFE).1 = true := by
  decide +kernel

theorem witness_StepRunsDecoded_stops :
    decodeErrorOf (atEnd kernel 0x1001) = some .truncated ∧
      (match ((atEnd kernel 0x1001).fetchBytes maxUnits 0xFFFFFFFE).2 with
        | some (.exc (.pf _)) => true
        | _ => false) = true ∧
      decodeErrorOf moved = some .truncated ∧
      (moved.fetchBytes maxUnits 0x3000).2 = some (.fault .pagingChangedUnderCode) := by
  decide +kernel

theorem witness_DecodeEncode : Instr.wellFormed (.ijmpAbs 15) = false ∧ Instr.wellFormed (.ijmpAbs 0) = true := by decide

theorem witness_StepKeepsInvariant : State.reset.Inv ∧ ∃ t, step State.reset = .next t :=
  ⟨by constructor <;> decide, _, next_of_isNext State.reset (by decide +kernel)⟩

theorem witness_StepKeepsConstants : ∃ t, step State.reset = .next t :=
  ⟨_, next_of_isNext State.reset (by decide +kernel)⟩

theorem witness_ProgramModeIsolation :
    user.xm = true ∧ ∃ t, exec (.addTogpr 1 (.short false 5)) user = .next t ∧ t.xm = true :=
  ⟨by decide, _, next_of_isNext user (by decide +kernel), by decide +kernel⟩

/-! ### A program placed by `withFetchWord` is what the next step runs -/

theorem test_withFetchWord_runs :
    let s := State.reset.withFetchWord 48 0x800503000010
    (nextOf s (step s)).ip = 0xff06 ∧ (nextOf s (step s)).r 0 = 5 := by
  decide +kernel

theorem test_decodeTableWord_first_unit_low :
    decodeTableWord 48 0x800503000010 = some (.add false false (.reg .b8 0) (.short false 5)) := by
  decide +kernel

end Sys2Proof.Machine.Tests
end

section
/-! PROOF. The flag computations: which bits they keep, and what C, Z, V and N are after an addition or a subtraction
(10_state.md R31 to R36). -/

namespace Sys2Proof.Machine

/-! ### Reserved bits of flags values -/

/-- No reserved bit is set in a flags value exactly when every bit from 5 up is clear (10_state.md R31). -/
theorem flagsReserved_iff (w : Word) : w &&& ~~~flagsMask = 0 ↔ ∀ i, 5 ≤ i → w.getLsbD i = false := by
  have mask : ∀ i, (~~~flagsMask).getLsbD i = decide (5 ≤ i ∧ i < 64) := fun i => by
    by_cases h : i < 64
    · interval_cases i <;> rfl
    · simp [BitVec.getLsbD_of_ge _ _ (not_lt.mp h), h]
  constructor
  · intro h i hi
    by_cases hi' : i < 64
    · have bit : (w &&& ~~~flagsMask).getLsbD i = false := by rw [h]; exact BitVec.getLsbD_zero
      rwa [BitVec.getLsbD_and, mask, decide_eq_true ⟨hi, hi'⟩, Bool.and_true] at bit
    · exact BitVec.getLsbD_of_ge _ _ (not_lt.mp hi')
  · intro h
    apply BitVec.eq_of_getLsbD_eq
    intro i _
    by_cases hi : 5 ≤ i
    · simp [h i hi]
    · simp [mask, hi]

/-- A value cut to the defined bits has no reserved bit set. -/
theorem flagsReserved_and_mask (w : Word) : (w &&& flagsMask) &&& ~~~flagsMask = 0 := by
  rw [BitVec.and_assoc, BitVec.and_not_self]
  exact BitVec.and_zero

/-- A flag computation that sets no reserved bit: it changes only defined bits. -/
def KeepsReserved (g : Word → Word) : Prop :=
  ∀ w, w &&& ~~~flagsMask = 0 → g w &&& ~~~flagsMask = 0

/-- Replacing a defined bit. -/
theorem putBit_keepsReserved {i : Nat} (hi : i < 5) (b : Bool) : KeepsReserved (putBit · i b) := by
  intro w hw
  rw [flagsReserved_iff] at hw ⊢
  intro j hj
  rw [getLsbD_putBit w i j b (by omega), if_neg (by omega), hw j hj]

theorem setZN_keepsReserved (r : Word) (n : Nat) : KeepsReserved (setZN · r n) := fun _ hw =>
  putBit_keepsReserved (by decide) _ _ (putBit_keepsReserved (by decide) _ _ hw)

theorem setCV_keepsReserved (c v : Bool) : KeepsReserved (setCV · c v) := fun _ hw =>
  putBit_keepsReserved (by decide) _ _ (putBit_keepsReserved (by decide) _ _ hw)

theorem setP_keepsReserved (r : Word) (n : Nat) : KeepsReserved (setP · r n) :=
  putBit_keepsReserved (by decide) _

theorem addFlags_keepsReserved (x y : Word) (n : Nat) : KeepsReserved (addFlags · x y n) := fun _ hw =>
  setZN_keepsReserved _ _ _ (setCV_keepsReserved _ _ _ hw)

theorem subFlags_keepsReserved (x y : Word) (n : Nat) : KeepsReserved (subFlags · x y n) := fun _ hw =>
  setZN_keepsReserved _ _ _ (setCV_keepsReserved _ _ _ hw)

theorem logicOf_keepsReserved (f : Word → Word → Word) (x y : Word) (n : Nat) : KeepsReserved (logicOf f · x y n) :=
  fun _ hw => setZN_keepsReserved _ _ _ (setCV_keepsReserved _ _ _ hw)

theorem testFlags_keepsReserved (x y : Word) (n : Nat) : KeepsReserved (testFlags · x y n) :=
  setZN_keepsReserved _ _

theorem shiftFlags_keepsReserved (o : Word × Bool) (n : Nat) (q : Word) : KeepsReserved (shiftFlags · o n q) :=
  fun _ hw => setZN_keepsReserved _ _ _ (setCV_keepsReserved _ _ _ hw)

theorem unaryFlags_keepsReserved (v : Word) (n : Nat) : KeepsReserved (unaryFlags · v n) := fun _ hw =>
  setP_keepsReserved _ _ _ (setZN_keepsReserved _ _ _ hw)

/-! ### Flags of sums and differences -/

/-- The value of an `n`-bit sum. -/
theorem toNat_truncBits_add {n : Nat} (hn : n ≤ 64) (x y : Word) :
    (truncBits n (x + y)).toNat = (x.toNat + y.toNat) % 2 ^ n := by
  rw [toNat_truncBits, BitVec.toNat_add, Nat.mod_mod_of_dvd _ (pow_dvd_pow 2 hn)]

/-- The value of an `n`-bit difference. -/
theorem toNat_truncBits_sub {n : Nat} (hn : n ≤ 64) {x y : Word} (hy : y.toNat < 2 ^ n) :
    (truncBits n (x - y)).toNat = (x.toNat + 2 ^ n - y.toNat) % 2 ^ n := by
  obtain ⟨k, hk⟩ := pow_dvd_pow 2 hn
  have hk1 : 1 ≤ k := Nat.one_le_iff_ne_zero.mpr fun h => by simp [h] at hk
  have hle : 2 ^ n ≤ 2 ^ n * k := Nat.le_mul_of_pos_right _ hk1
  have lifted : 2 ^ 64 - y.toNat + x.toNat = x.toNat + 2 ^ n - y.toNat + 2 ^ n * (k - 1) := by
    rw [Nat.mul_sub_one]; omega
  rw [toNat_truncBits, BitVec.toNat_sub, Nat.mod_mod_of_dvd _ (pow_dvd_pow 2 hn), lifted, Nat.add_mul_mod_self_left]

/-- Whether a number is the value of an `n`-bit signed one. -/
def fitsSigned (n : Nat) (v : Int) : Bool := decide (-(2 ^ (n - 1) : Int) ≤ v ∧ v < 2 ^ (n - 1))

/-- A number below `2p` read as a signed one. -/
def signedHalf (p a : Nat) : Int := if p ≤ a then (a : Int) - 2 * p else a

theorem signedOf_succ (m a : Nat) : signedOf (m + 1) a = signedHalf (2 ^ m) a := by
  simp only [signedOf, signedHalf, Nat.add_sub_cancel, pow_succ']
  norm_cast

theorem fitsSigned_succ (m : Nat) (v : Int) :
    fitsSigned (m + 1) v = decide (-((2 ^ m : Nat) : Int) ≤ v ∧ v < ((2 ^ m : Nat) : Int)) := by
  simp only [fitsSigned, Nat.add_sub_cancel]
  norm_cast

/-- The remainder of a number below twice the modulus. -/
theorem mod_of_lt_two_mul {m x : Nat} (h : x < 2 * m) : x < m ∧ x % m = x ∨ m ≤ x ∧ x % m = x - m := by
  by_cases hx : x < m
  · exact .inl ⟨hx, Nat.mod_eq_of_lt hx⟩
  · exact .inr ⟨not_lt.mp hx, by rw [Nat.mod_eq_sub_mod (by omega), Nat.mod_eq_of_lt (by omega)]⟩

/-- Operands of one sign and a result of the other: the signed sum of `n`-bit numbers overflows (10_state.md R34). -/
theorem signed_overflow_add {n a b : Nat} (hn : 1 ≤ n) (ha : a < 2 ^ n) (hb : b < 2 ^ n) :
    (decide (2 ^ (n - 1) ≤ a) == decide (2 ^ (n - 1) ≤ b) &&
        decide (2 ^ (n - 1) ≤ (a + b) % 2 ^ n) != decide (2 ^ (n - 1) ≤ a)) =
      !fitsSigned n (signedOf n a + signedOf n b) := by
  obtain ⟨m, rfl⟩ := Nat.exists_eq_add_of_le' hn
  rw [fitsSigned_succ, signedOf_succ, signedOf_succ, Nat.add_sub_cancel]
  rw [pow_succ'] at ha hb ⊢
  generalize 2 ^ m = p at *
  have mod := mod_of_lt_two_mul (show a + b < 2 * (2 * p) by omega)
  generalize (a + b) % (2 * p) = r at *
  rw [Bool.eq_iff_iff]
  by_cases h1 : p ≤ a <;> by_cases h2 : p ≤ b <;> simp [signedHalf, h1, h2] <;> omega

/-- Operands of different signs and a result of the other sign than the first: the signed difference overflows
(10_state.md R34). -/
theorem signed_overflow_sub {n a b : Nat} (hn : 1 ≤ n) (ha : a < 2 ^ n) (hb : b < 2 ^ n) :
    (decide (2 ^ (n - 1) ≤ a) != decide (2 ^ (n - 1) ≤ b) &&
        decide (2 ^ (n - 1) ≤ (a + 2 ^ n - b) % 2 ^ n) != decide (2 ^ (n - 1) ≤ a)) =
      !fitsSigned n (signedOf n a - signedOf n b) := by
  obtain ⟨m, rfl⟩ := Nat.exists_eq_add_of_le' hn
  rw [fitsSigned_succ, signedOf_succ, signedOf_succ, Nat.add_sub_cancel]
  rw [pow_succ'] at ha hb ⊢
  generalize 2 ^ m = p at *
  have mod := mod_of_lt_two_mul (show a + 2 * p - b < 2 * (2 * p) by omega)
  generalize (a + 2 * p - b) % (2 * p) = r at *
  rw [Bool.eq_iff_iff]
  by_cases h1 : p ≤ a <;> by_cases h2 : p ≤ b <;> simp [signedHalf, h1, h2] <;> omega

/-- A word is zero exactly when its value is. -/
theorem beq_zero_eq (w : Word) : (w == 0) = decide (w.toNat = 0) := by
  rw [Bool.eq_iff_iff]; simp [BitVec.toNat_eq]

/-- The top bit of an `n`-bit result, as a comparison and as a bit of its value. -/
theorem getLsbD_truncBits_top {n r : Nat} {w : Word} (hn : 1 ≤ n) (hr : (truncBits n w).toNat = r) :
    (truncBits n w).getLsbD (n - 1) = decide (2 ^ (n - 1) ≤ r) ∧ r.testBit (n - 1) = decide (2 ^ (n - 1) ≤ r) := by
  subst hr
  exact ⟨getLsbD_top n hn _ (truncBits_lt n w), getLsbD_top n hn _ (truncBits_lt n w)⟩

/-- The bits of the flags of an addition (10_state.md R36). -/
theorem getLsbD_addFlags (fl : Word) {x y : Word} {n : Nat} (h1 : 1 ≤ n) (h64 : n ≤ 64) (hx : x.toNat < 2 ^ n)
    (hy : y.toNat < 2 ^ n) (i : Nat) :
    (addFlags fl x y n).getLsbD i =
      if i = 3 then ((x.toNat + y.toNat) % 2 ^ n).testBit (n - 1)
      else if i = 1 then decide ((x.toNat + y.toNat) % 2 ^ n = 0)
      else if i = 2 then !fitsSigned n (signedOf n x.toNat + signedOf n y.toNat)
      else if i = 0 then decide (2 ^ n ≤ x.toNat + y.toNat)
      else fl.getLsbD i := by
  have value := toNat_truncBits_add h64 x y
  obtain ⟨top, bit⟩ := getLsbD_truncBits_top h1 value
  simp only [addFlags]
  rw [getLsbD_setZN, getLsbD_setCV, beq_zero_eq, value, top, bit, getLsbD_top n h1 x hx, getLsbD_top n h1 y hy,
    signed_overflow_add h1 hx hy]

/-- An `n`-bit difference is 0 exactly for equal operands. -/
theorem sub_mod_eq_zero_iff {p a b : Nat} (ha : a < p) (hb : b < p) : (a + p - b) % p = 0 ↔ a = b := by
  have mod := mod_of_lt_two_mul (show a + p - b < 2 * p by omega)
  omega

/-- The bits of the flags of a subtraction (10_state.md R36). -/
theorem getLsbD_subFlags (fl : Word) {x y : Word} {n : Nat} (h1 : 1 ≤ n) (h64 : n ≤ 64) (hx : x.toNat < 2 ^ n)
    (hy : y.toNat < 2 ^ n) (i : Nat) :
    (subFlags fl x y n).getLsbD i =
      if i = 3 then ((x.toNat + 2 ^ n - y.toNat) % 2 ^ n).testBit (n - 1)
      else if i = 1 then decide (x = y)
      else if i = 2 then !fitsSigned n (signedOf n x.toNat - signedOf n y.toNat)
      else if i = 0 then decide (x.toNat < y.toNat)
      else fl.getLsbD i := by
  have value := toNat_truncBits_sub h64 (x := x) hy
  obtain ⟨top, bit⟩ := getLsbD_truncBits_top h1 value
  have zero : decide ((x.toNat + 2 ^ n - y.toNat) % 2 ^ n = 0) = decide (x = y) := by
    rw [decide_eq_decide, sub_mod_eq_zero_iff hx hy, BitVec.toNat_inj]
  simp only [subFlags]
  rw [getLsbD_setZN, getLsbD_setCV, beq_zero_eq, value, zero, top, bit, getLsbD_top n h1 x hx, getLsbD_top n h1 y hy,
    signed_overflow_sub h1 hx hy]

/-- Settles O10, from the bits of both flag computations. -/
theorem arithmeticFlags : Obligations.ArithmeticFlags := by
  intro fl x y n h1 h64 hx hy
  have add := getLsbD_addFlags fl h1 h64 hx hy
  have sub := getLsbD_subFlags fl h1 h64 hx hy
  refine ⟨⟨add 0, add 2, add 1, add 3⟩, ⟨sub 0, sub 2, sub 1, sub 3⟩, fun i hi => ?_⟩
  rw [add, sub]
  iterate 4 rw [if_neg (by omega), if_neg (by omega)]
  exact ⟨rfl, rfl⟩

end Sys2Proof.Machine
end

section
/-! PROOF. Writing a register operand (10_state.md R24, R31, R48; 60_exceptions.md R498). -/

namespace Sys2Proof.Machine

/-- Writeback validation admits every value to a general register (60_exceptions.md R498). -/
theorem State.writebackCheck_gpr (s : State) {r : BitVec 8} (h : r.toNat < 16) (v : Word) :
    s.writebackCheck r v = .ok () := by
  unfold State.writebackCheck
  split
  case h_7 =>
    rw [if_neg (by omega), if_neg (by simp [isMsr]; omega)]
  all_goals omega

/-- A write to a general register replaces it and nothing else (10_state.md R24). -/
theorem State.writeReg_gpr_eq (s : State) {r : BitVec 8} (h : r.toNat < 16) (v : Word) :
    s.writeReg r v = { s with gpr := s.gpr.set r.toNat v } := by
  simp only [State.writeReg, h, dite_true]

/-- A general register read as an operand. -/
theorem State.readRegister_gpr (s : State) (nip : Word) {r : BitVec 8} (h : r.toNat < 16) (z : Size) :
    s.readRegister nip r z = .ok (truncBits z.bits s.gpr[r.toNat]) := by
  have hm : isMsr r = false := by simp [isMsr]; omega
  simp [State.readRegister, hm, State.readReg, h]

/-- What writeback validation admits to the registers that the invariant is about (60_exceptions.md R498). -/
theorem State.writebackCheck_legal {s : State} {r : BitVec 8} {v : Word} (h : s.writebackCheck r v = .ok ()) :
    (r.toNat = 128 → s.cr0Legal v = true) ∧ (r.toNat = 130 → v &&& ~~~flagsMask = 0) ∧
      (r.toNat = 135 → v &&& ~~~0xFF#64 = 0) := by
  unfold State.writebackCheck at h
  refine ⟨fun e => ?_, fun e => ?_, fun e => ?_⟩
  · simp only [e] at h
    split at h
    · assumption
    · simp [raise] at h
  · simpa [e] using h
  · simpa [e] using h

/-- The bits of `flags` after an explicit write: a defined bit that is not protected is replaced (10_state.md R31, R48). -/
theorem State.getLsbD_writeFlags (s : State) (v : Word) {i : Nat} (hi : i < 64) :
    (s.writeFlags v).flags.getLsbD i =
      if i < 5 ∧ ¬(s.xm = true ∧ s.flprotect.getLsbD i = true) then v.getLsbD i else s.flags.getLsbD i := by
  have mask : flagsMask.getLsbD i = decide (i < 5) := by interval_cases i <;> rfl
  simp only [State.writeFlags]
  have bit : ∀ w, (s.flags &&& ~~~w ||| v &&& w).getLsbD i = if w.getLsbD i then v.getLsbD i else s.flags.getLsbD i := by
    intro w
    simp only [BitVec.getLsbD_or, BitVec.getLsbD_and, BitVec.getLsbD_not, hi, decide_true, Bool.true_and]
    cases w.getLsbD i <;> simp
  rw [bit]
  cases hxm : s.xm
  · simp only [mask, Bool.false_eq_true, if_false, false_and, not_false_eq_true, and_true, decide_eq_true_eq]
  · simp only [BitVec.getLsbD_and, BitVec.getLsbD_not, mask, hi, if_true, decide_true, Bool.true_and, Bool.and_eq_true,
      decide_eq_true_eq, Bool.not_eq_true', true_and, Bool.not_eq_true]

/-- An explicit write to `flags` sets no reserved bit, whatever `flprotect` is (10_state.md R31). -/
theorem State.writeFlags_keepsReserved (s : State) (v : Word) (h : s.flags &&& ~~~flagsMask = 0) :
    (s.writeFlags v).flags &&& ~~~flagsMask = 0 := by
  rw [flagsReserved_iff] at h ⊢
  intro i hi
  by_cases hi' : i < 64
  · rw [s.getLsbD_writeFlags v hi', if_neg (by omega), h i hi]
  · exact BitVec.getLsbD_of_ge _ _ (not_lt.mp hi')

/-- Settles O3, from the rules for writing and reading a general register. -/
theorem registerOperandWrite : Obligations.RegisterOperandWrite := by
  intro s r h z z' v nip
  refine ⟨{ s with gpr := s.gpr.set r.toNat (truncBits z.bits v) },
    State.writeTarget_ok.mpr ⟨s.writebackCheck_gpr h _, (s.writeReg_gpr_eq h _).symm⟩, ?_, fun j hj => ?_, rfl,
    _, State.readRegister_gpr _ nip h z', ?_⟩
  · simp [Size.bits_eq]
  · simp [hj.symm]
  · simp [Size.bits_eq]

/-- Settles O4: writeback validation admits every value to `flags`, and each size holds the defined bits. -/
theorem flagsOperandWrite : Obligations.FlagsOperandWrite := by
  intro s z v
  refine ⟨s.writeFlags (truncBits z.bits v), State.writeTarget_ok.mpr ⟨rfl, rfl⟩, fun i hi => ?_, rfl⟩
  rw [s.getLsbD_writeFlags _ hi, getLsbD_truncBits]
  have size : 8 ≤ z.bits := by cases z <;> decide
  by_cases h5 : i < 5
  · rw [decide_eq_true (by omega), Bool.true_and]
  · rw [if_neg (by omega), if_neg (by omega)]

end Sys2Proof.Machine
end

section
/-! PROOF. The state after initialisation (10_state.md R65). -/

namespace Sys2Proof.Machine

/-- A state with canonical memory and `flags`, `cr0`, `flprotect` and `ciread` clear meets the invariant. -/
theorem State.inv_of_cleared {s : State} (hmem : Memory.wf s.mem = true) (hflags : s.flags = 0) (hcr0 : s.cr0 = 0)
    (hflprotect : s.flprotect = 0) (hciread : s.ciread = 0) : s.Inv where
  memory := hmem
  flagsReserved := by simp [hflags]
  cr0Legal := by simp [hcr0, State.cr0Legal, ptlOf]
  flprotectReserved := by simp [hflprotect]
  cireadReserved := by simp [hciread]

theorem State.initial_inv (image : List Byte) : (State.initial image).Inv :=
  State.inv_of_cleared (imageMemory_wf image) rfl rfl rfl rfl

/-- Settles O2: the image is laid down in the canonical form, and the registers with reserved bits are clear. -/
theorem resetInvariant : Obligations.ResetInvariant :=
  ⟨State.initial_inv Config.bootImage, State.initial_inv⟩

/-- A byte of an image laid down from address `n` up. -/
theorem get_image (image : List Byte) (n a : Nat) :
    Memory.get ((image.zipIdx n).filterMap fun c => if c.1 = 0 then none else some (c.2, c.1)) a =
      if n ≤ a then image.getD (a - n) 0 else 0 := by
  induction image generalizing n with
  | nil => simp [Memory.get]
  | cons b image ih =>
    have head : (if n ≤ a then (b :: image).getD (a - n) 0 else 0) =
        if a = n then b else if n + 1 ≤ a then image.getD (a - (n + 1)) 0 else 0 := by
      rcases lt_trichotomy a n with h | rfl | h
      · simp [Nat.not_le.mpr h, Nat.ne_of_lt h, show ¬n + 1 ≤ a by omega]
      · simp
      · rw [if_pos h.le, if_neg h.ne', if_pos (Nat.succ_le_of_lt h), show a - n = a - (n + 1) + 1 by omega,
          List.getD_cons_succ]
    simp only [List.zipIdx_cons, List.filterMap_cons, head, ← ih (n + 1)]
    by_cases hb : b = 0
    · have skipped : a = n → Memory.get ((image.zipIdx (n + 1)).filterMap fun c =>
          if c.1 = 0 then none else some (c.2, c.1)) a = 0 := fun e => by rw [ih, if_neg (by omega)]
      simp only [hb, if_true]
      split
      · exact skipped ‹_›
      · rfl
    · simp only [hb, if_false, Memory.get]

/-- The memory of a boot image: its first 64 KiB, and 0 everywhere else (10_state.md R65). -/
theorem get_imageMemory (image : List Byte) (a : Nat) :
    (imageMemory image).get a = if a < 0x10000 then image.getD a 0 else 0 := by
  rw [imageMemory, get_image, if_pos (Nat.zero_le a), Nat.sub_zero]
  by_cases h : a < 0x10000 <;> simp [List.getD_eq_getElem?_getD, h]

/-- Only CPU 0 is enabled and active after initialisation (60_exceptions.md R528). -/
theorem State.initial_cpus (image : List Byte) (n : Fin 128) :
    (State.initial image).cpuEnabled n = decide (n.val = 0) ∧ (State.initial image).cpuActive n = decide (n.val = 0) := by
  by_cases h : n.val = 0
  · simp [State.cpuEnabled, State.cpuActive, h]
  · have word : (State.initial image).enableWord[n] = 0 := by
      simp [State.initial, Ne.symm h]
    simp [State.cpuEnabled, State.cpuActive, h, word]

/-- Settles O1: the memory is that of the image, and every register is read off the definition. -/
theorem resetValues : Obligations.ResetValues := by
  refine ⟨rfl, fun image => ?_⟩
  have present : (State.initial image).cpuex2.getLsbD 0 = true := by
    change (State.initial []).cpuex2.getLsbD 0 = true
    decide
  exact ⟨rfl, rfl, rfl, rfl, rfl, rfl, present, rfl, rfl, rfl, rfl, get_imageMemory image, rfl, rfl, rfl, rfl, rfl,
    State.initial_cpus image⟩

end Sys2Proof.Machine
end

section
/-! PROOF. What every step keeps: the CPUInfo registers and parameters, and the invariant. The relation between two states,
and the operations on a state that keep it. -/

namespace Sys2Proof.Machine

/-! ### The relation -/

/-- `t` has the constants of `s`, and meets the invariant where `s` does. -/
structure State.Keeps (s t : State) : Prop where
  constants : SameConstants s t
  inv : s.Inv → t.Inv

/-- The fields that the constants and the invariant are about. -/
def State.guarded (s : State) : List Word × Params × Memory :=
  ([s.cpuidlo, s.cpuidhi, s.cpuex2, s.cpuex3, s.cpuex4, s.cpuex5, s.cpuex6, s.mscpuex, s.flags, s.cr0, s.flprotect,
    s.ciread], s.params, s.mem)

theorem SameConstants.trans {s t u : State} (h : SameConstants s t) (h' : SameConstants t u) : SameConstants s u where
  cpuidlo := h'.cpuidlo.trans h.cpuidlo
  cpuidhi := h'.cpuidhi.trans h.cpuidhi
  cpuex2 := h'.cpuex2.trans h.cpuex2
  cpuex3 := h'.cpuex3.trans h.cpuex3
  cpuex4 := h'.cpuex4.trans h.cpuex4
  cpuex5 := h'.cpuex5.trans h.cpuex5
  cpuex6 := h'.cpuex6.trans h.cpuex6
  mscpuex := h'.mscpuex.trans h.mscpuex
  params := h'.params.trans h.params

/-- Which `cr0` values are legal depends on the constants only. -/
theorem SameConstants.cr0Legal_eq {s t : State} (h : SameConstants s t) (v : Word) : t.cr0Legal v = s.cr0Legal v := by
  have vas : t.vas = s.vas := by simp only [State.vas, h.cpuex2]
  simp only [State.cr0Legal, vas]

namespace State.Keeps

variable {s t u : State}

theorem refl (s : State) : s.Keeps s := ⟨⟨rfl, rfl, rfl, rfl, rfl, rfl, rfl, rfl, rfl⟩, id⟩

theorem trans (h : s.Keeps t) (h' : t.Keeps u) : s.Keeps u := ⟨h.constants.trans h'.constants, h'.inv ∘ h.inv⟩

/-- An update of any other field. -/
theorem congr (h : s.Keeps t) (e : u.guarded = t.guarded) : s.Keeps u := by
  simp only [State.guarded, Prod.mk.injEq, List.cons.injEq, and_true] at e
  obtain ⟨⟨e1, e2, e3, e4, e5, e6, e7, e8, hflags, hcr0, hflprotect, hciread⟩, hparams, hmem⟩ := e
  have hc : SameConstants t u := ⟨e1, e2, e3, e4, e5, e6, e7, e8, hparams⟩
  refine h.trans ⟨hc, fun ht => ⟨?_, ?_, ?_, ?_, ?_⟩⟩
  · rw [hmem]; exact ht.memory
  · rw [hflags]; exact ht.flagsReserved
  · rw [hcr0, hc.cr0Legal_eq]; exact ht.cr0Legal
  · rw [hflprotect]; exact ht.flprotectReserved
  · rw [hciread]; exact ht.cireadReserved

theorem setR (h : s.Keeps t) (i : BitVec 4) (v : Word) : s.Keeps (t.setR i v) := h.congr rfl

theorem advance (h : s.Keeps t) (nip : Word) : s.Keeps (t.advance nip) := h.congr rfl

theorem jump (h : s.Keeps t) (d : Word) : s.Keeps (t.jump d) := h.congr rfl

theorem withFcode (h : s.Keeps t) (v : Word) : s.Keeps { t with fcode := v } := h.congr rfl

/-- A new flags value, computed from the flags of the state the instruction started from. -/
theorem withFlags {g : Word → Word} (h : s.Keeps t) (hg : KeepsReserved g) : s.Keeps (t.withFlags (g s.flags)) where
  constants := { h.constants with }
  inv hs := { h.inv hs with flagsReserved := hg _ hs.flagsReserved }

/-- The same where an instruction may leave the flags alone. -/
theorem withFlagsUnless {g : Word → Word} (h : s.Keeps t) (hg : KeepsReserved g) (nf : Bool) :
    s.Keeps (if nf then t else t.withFlags (g s.flags)) := by
  cases nf
  · exact h.withFlags hg
  · exact h

theorem writeFlags (h : s.Keeps t) (v : Word) : s.Keeps (t.writeFlags v) where
  constants := { h.constants with }
  inv hs := { h.inv hs with flagsReserved := t.writeFlags_keepsReserved v (h.inv hs).flagsReserved }

theorem store (h : s.Keeps t) (pas : List Nat) (bs : List Byte) : s.Keeps (t.store pas bs) where
  constants := { h.constants with }
  inv hs := { h.inv hs with memory := t.wf_store pas bs (h.inv hs).memory }

theorem storeBlocks (h : s.Keeps t) (n : Nat) (pas : List Nat) (bs : List Byte) : s.Keeps (t.storeBlocks n pas bs) := by
  induction n generalizing t pas bs with
  | zero => exact h
  | succ n ih => exact ih (h.store _ _) _ _

/-- A change of paging to a legal `cr0` (10_state.md R46). -/
theorem setPaging {c p : Word} (h : s.Keeps t) (hc : s.Inv → t.cr0Legal c = true) : s.Keeps (t.setPaging c p) := by
  rw [State.setPaging_eq]
  exact ⟨{ h.constants with }, fun hs => { h.inv hs with cr0Legal := hc hs }⟩

/-! ### Registers and operands -/

/-- A register write that the validation in the starting state admits. -/
theorem writeReg {r : BitVec 8} {v : Word} (h : s.Keeps t) (hv : s.writebackCheck r v = .ok ()) :
    s.Keeps (t.writeReg r v) := by
  obtain ⟨hcr0, hflprotect, hciread⟩ := State.writebackCheck_legal hv
  unfold State.writeReg
  split
  · exact h.congr rfl
  · split
    case h_1 => exact h.writeFlags v
    case h_2 e => exact h.setPaging fun _ => (h.constants.cr0Legal_eq v).trans (hcr0 (e : r.toNat = 128))
    case h_3 => exact h.setPaging fun hs => (h.inv hs).cr0Legal
    case h_4 e =>
      exact ⟨{ h.constants with }, fun hs => { h.inv hs with flprotectReserved := hflprotect (e : r.toNat = 130) }⟩
    case h_9 e =>
      exact ⟨{ h.constants with }, fun hs => { h.inv hs with cireadReserved := hciread (e : r.toNat = 135) }⟩
    all_goals exact h.congr rfl

theorem setTarget {d : Target} {v : Word} (h : s.Keeps t) (hv : s.checkTarget v d = .ok ()) :
    s.Keeps (t.setTarget v d) := by
  cases d with
  | reg r z => exact h.writeReg hv
  | mem pas => exact h.store _ _

/-! ### Delivery -/

/-- A reset during operation clears `flags`, `cr0`, `flprotect` and `ciread` (70_reset_and_hazards.md R542). -/
theorem cpuReset (h : s.Keeps t) : s.Keeps t.cpuReset := by
  have constants : SameConstants t t.cpuReset := by constructor <;> simp only [State.cpuReset]
  exact h.trans ⟨constants, fun ht => State.inv_of_cleared ht.memory rfl rfl rfl rfl⟩

theorem enter {n : Nat} {frame : List Word} (h : s.Keeps t) (he : t.enter n frame = .ok u) : s.Keeps u := by
  obtain ⟨e, pas, -, -, -, rfl⟩ := State.enter_ok.mp he
  exact (h.store pas (wordsBytes frame)).congr rfl

theorem deliverAbort (h : s.Keeps t) : s.Keeps t.deliverAbort := by
  rcases t.deliverAbort_cases with ⟨u, hu, e⟩ | e
  · exact e ▸ (h.withFcode 0).enter hu
  · exact e ▸ h.cpuReset

theorem deliverException (h : s.Keeps t) (n : Nat) (sip : Word) : s.Keeps (t.deliverException n sip) := by
  rcases t.deliverException_cases n sip with ⟨u, hu, e⟩ | e | e
  · exact e ▸ h.enter hu
  · exact e ▸ h.cpuReset
  · exact e ▸ h.deliverAbort

theorem deliver (h : s.Keeps t) (n : Nat) (sip : Word) : s.Keeps (t.deliver n sip) := by
  rcases t.deliver_cases n sip with ⟨u, hu, e⟩ | e | e | e | ⟨-, e⟩
  · exact e ▸ h.enter hu
  · exact e ▸ h.cpuReset
  · exact e ▸ h.deliverAbort
  · exact e ▸ (h.withFcode 0).deliverException 2 sip
  · exact e ▸ h.jump sip

theorem takePageFault (h : s.Keeps t) (f : PageFault) : s.Keeps (t.takePageFault f) := by
  have hf := h.withFcode f.addr
  rcases t.takePageFault_cases f with e | e | ⟨pas, -, e⟩
  · exact e ▸ hf.deliverException 3 t.ip
  · exact e ▸ hf.deliverAbort
  · exact e ▸ (hf.store pas f.record).deliverException 3 t.ip

theorem takeException (h : s.Keeps t) (e : Exc) : s.Keeps (t.takeException e) := by
  cases e with
  | und => exact (h.withFcode _).deliverException 1 t.ip
  | prot => exact (h.withFcode _).deliverException 2 t.ip
  | pf f => exact h.takePageFault f
  | xa a => exact (h.withFcode _).deliverException 4 t.ip
  | div => exact (h.withFcode _).deliverException 6 t.ip

theorem takeEvent (h : s.Keeps t) (e : Event) : s.Keeps (t.takeEvent e) := by
  cases e with
  | injected n =>
    simp only [State.takeEvent]
    split
    · exact deliver (h.congr (by rfl)) n t.ip
    · exact deliver (h.congr (by rfl)) n t.ip
  | nmi => exact deliver (h.congr (by rfl)) 5 t.ip
  | irq k => exact deliver (h.congr (by rfl)) (32 + k) t.ip

end State.Keeps

theorem State.writeTarget_keeps {s u : State} {d : Target} {v : Word} (h : s.writeTarget d v = .ok u) : s.Keeps u := by
  obtain ⟨hv, rfl⟩ := State.writeTarget_ok.mp h
  exact (State.Keeps.refl s).setTarget hv

end Sys2Proof.Machine
end

section
/-! PROOF. The meaning of each instruction keeps what every step keeps. -/

namespace Sys2Proof.Machine

/-- Every next state that a meaning computes from `s` keeps what every step keeps. -/
def State.KeepsOk (s : State) (x : Result) : Prop := ∀ t, x = .ok t → s.Keeps t

/-- The next state of an outcome, if there is one, keeps what every step keeps. -/
def State.KeepsNext (s : State) (o : Host.Outcome State Fault Refusal) : Prop := ∀ t, o = .next t → s.Keeps t

/-- An instruction completes or takes an exception; neither breaks the invariant. -/
theorem State.KeepsOk.finish_of {s t : State} {x : Result} (h : s.KeepsOk x) (ht : s.Keeps t) :
    s.KeepsNext (finish t x) := by
  intro u hu
  rcases finish_next.mp hu with hx | ⟨e, -, rfl⟩
  · exact h u hx
  · exact ht.takeException e

theorem State.KeepsOk.finish {s : State} {x : Result} (h : s.KeepsOk x) : s.KeepsNext (finish s x) :=
  h.finish_of (State.Keeps.refl s)

theorem State.keepsOk_error (s : State) (e : Trap) : s.KeepsOk (.error e) := nofun

variable {s : State}

/-! ### Arithmetic, logic and shifts -/

theorem alu2_keeps {f : Word → Word → Word} {fl : Word → Word → Word → Nat → Word}
    (hfl : ∀ x y n, KeepsReserved (fl · x y n)) {l nf : Bool} {a b : Operand} : s.KeepsOk (alu2 f fl l nf a b s) := by
  intro t h
  simp only [alu2, Result.bind_ok, Except.ok.injEq] at h
  obtain ⟨-, -, -, -, y, -, d, -, x, -, u, hu, rfl⟩ := h
  exact ((State.writeTarget_keeps hu).withFlagsUnless (hfl x y _) nf).advance _

theorem shift2_keeps {g : Nat → Word → Word → Word × Bool} {l nf : Bool} {a b : Operand} :
    s.KeepsOk (shift2 g l nf a b s) := by
  intro t h
  simp only [shift2, Result.bind_ok, Except.ok.injEq] at h
  obtain ⟨-, -, -, -, y, -, d, -, x, -, u, hu, rfl⟩ := h
  exact ((State.writeTarget_keeps hu).withFlagsUnless (shiftFlags_keepsReserved _ _ y) nf).advance _

theorem aluFromGpr_keeps {f : Word → Word → Word} {fl : Word → Word → Word → Nat → Word}
    (hfl : ∀ x y n, KeepsReserved (fl · x y n)) {r : BitVec 4} {a : Operand} : s.KeepsOk (aluFromGpr f fl r a s) := by
  intro t h
  simp only [aluFromGpr, Result.bind_ok, Except.ok.injEq] at h
  obtain ⟨-, -, -, -, -, -, d, -, x, -, u, hu, rfl⟩ := h
  exact ((State.writeTarget_keeps hu).withFlags (hfl x _ _)).advance _

theorem aluToGpr_keeps {f : Word → Word → Word} {fl : Word → Word → Word → Nat → Word}
    (hfl : ∀ x y n, KeepsReserved (fl · x y n)) {r : BitVec 4} {a : Operand} : s.KeepsOk (aluToGpr f fl r a s) := by
  intro t h
  simp only [aluToGpr, Result.bind_ok, Except.ok.injEq] at h
  obtain ⟨-, -, y, -, rfl⟩ := h
  exact (((State.Keeps.refl s).setR _ _).withFlags (hfl _ y 64)).advance _

theorem shiftGpr_keeps {g : Nat → Word → Word → Word × Bool} {r : BitVec 4} {a : Operand} :
    s.KeepsOk (shiftGpr g r a s) := by
  intro t h
  simp only [shiftGpr, Result.bind_ok, Except.ok.injEq] at h
  obtain ⟨-, -, y, -, rfl⟩ := h
  exact (((State.Keeps.refl s).setR _ _).withFlags (shiftFlags_keepsReserved _ 64 y)).advance _

theorem unaryGpr_keeps {g : Word → Word} {r : BitVec 4} : s.KeepsOk (unaryGpr g r s) := by
  rintro t ⟨rfl⟩
  exact (((State.Keeps.refl s).setR _ _).withFlags (unaryFlags_keepsReserved _ 64)).advance _

theorem unary_keeps {g : Word → Word} {nf : Bool} {a : Operand} : s.KeepsOk (unary g nf a s) := by
  intro t h
  simp only [unary, Result.bind_ok, Except.ok.injEq] at h
  obtain ⟨-, -, -, -, -, -, d, -, x, -, u, hu, rfl⟩ := h
  exact ((State.writeTarget_keeps hu).withFlagsUnless (unaryFlags_keepsReserved _ _) nf).advance _

theorem State.writeConverted_keeps {nip v : Word} {d : Target} {n : Nat} {nf : Bool} :
    s.KeepsOk (s.writeConverted nip d v n nf) := by
  intro t h
  simp only [State.writeConverted, Result.bind_ok, Except.ok.injEq] at h
  obtain ⟨u, hu, rfl⟩ := h
  exact ((State.writeTarget_keeps hu).withFlagsUnless (setZN_keepsReserved v n) nf).advance _

theorem moveSigned_keeps {nf : Bool} {a b : Operand} : s.KeepsOk (moveSigned nf a b s) := by
  intro t h
  simp only [moveSigned, Result.bind_ok] at h
  obtain ⟨-, -, -, -, v, -, d, -, h⟩ := h
  exact State.writeConverted_keeps t h

theorem swapBytes_keeps {nf : Bool} {a b : Operand} : s.KeepsOk (swapBytes nf a b s) := by
  intro t h
  simp only [swapBytes, Result.bind_ok] at h
  obtain ⟨-, -, -, -, -, -, v, -, d, -, h⟩ := h
  exact State.writeConverted_keeps t h

theorem State.setPair_keeps (n : Nat) (nf : Bool) (lo hi : Nat) : s.Keeps (s.setPair n nf lo hi) := by
  have hf : KeepsReserved fun w =>
      setCV (setZN w (BitVec.ofNat 64 (lo % 2 ^ n)) n) (Config.mulDivCarry s.draws) (Config.mulDivOverflow s.draws) :=
    fun w hw => setCV_keepsReserved _ _ _ (setZN_keepsReserved _ _ w hw)
  exact ((((State.Keeps.refl s).setR 0 _).setR 3 _).withFlagsUnless hf nf).advance _

theorem multiply_keeps {n : Nat} {nf : Bool} : s.KeepsOk (multiply n nf s) := by
  rintro t ⟨rfl⟩; exact State.setPair_keeps _ _ _ _

theorem multiplySigned_keeps {n : Nat} {nf : Bool} : s.KeepsOk (multiplySigned n nf s) := by
  rintro t ⟨rfl⟩; exact State.setPair_keeps _ _ _ _

theorem divide_keeps {n : Nat} {wide nf : Bool} : s.KeepsOk (divide n wide nf s) := by
  intro t h
  simp only [divide, Result.bind_ok, Except.ok.injEq] at h
  obtain ⟨-, -, rfl⟩ := h
  exact State.setPair_keeps _ _ _ _

theorem divideSigned_keeps {n : Nat} {wide nf : Bool} : s.KeepsOk (divideSigned n wide nf s) := by
  intro t h
  simp only [divideSigned, Result.bind_ok, Except.ok.injEq] at h
  obtain ⟨-, -, rfl⟩ := h
  exact State.setPair_keeps _ _ _ _

/-! ### Moves, comparisons and the stack -/

theorem move_keeps {a b : Operand} : s.KeepsOk (move a b s) := by
  intro t h
  simp only [move, Result.bind_ok, Except.ok.injEq] at h
  obtain ⟨-, -, -, -, -, -, -, -, v, -, d, -, u, hu, rfl⟩ := h
  exact ((State.writeTarget_keeps hu).withFlags (setZN_keepsReserved _ _)).advance _

theorem loadAddress_keeps {a b : Operand} : s.KeepsOk (loadAddress a b s) := by
  intro t h
  simp only [loadAddress, Result.bind_ok] at h
  obtain ⟨-, -, h⟩ := h
  split at h
  · simp only [Result.bind_ok, Except.ok.injEq] at h
    obtain ⟨-, -, u, hu, rfl⟩ := h
    exact (State.writeTarget_keeps hu).advance _
  · cases h

theorem moveToGpr_keeps {r : BitVec 4} {a : Operand} : s.KeepsOk (moveToGpr r a s) := by
  intro t h
  simp only [moveToGpr, Result.bind_ok, Except.ok.injEq] at h
  obtain ⟨-, -, v, -, rfl⟩ := h
  exact (((State.Keeps.refl s).setR _ _).withFlags (setZN_keepsReserved _ _)).advance _

theorem moveFromGpr_keeps {r : BitVec 4} {a : Operand} : s.KeepsOk (moveFromGpr r a s) := by
  intro t h
  simp only [moveFromGpr, Result.bind_ok, Except.ok.injEq] at h
  obtain ⟨-, -, -, -, -, -, d, -, u, hu, rfl⟩ := h
  exact ((State.writeTarget_keeps hu).withFlags (setZN_keepsReserved _ _)).advance _

theorem loadAddressToGpr_keeps {r : BitVec 4} {a : Operand} : s.KeepsOk (loadAddressToGpr r a s) := by
  intro t h
  simp only [loadAddressToGpr, Result.bind_ok] at h
  obtain ⟨-, -, h⟩ := h
  split at h
  · obtain ⟨rfl⟩ := h; exact ((State.Keeps.refl s).setR _ _).advance _
  · cases h

theorem noOperation_keeps {len : Nat} : s.KeepsOk (noOperation len s) := by
  rintro t ⟨rfl⟩; exact (State.Keeps.refl s).advance _

theorem State.push_keeps {t : State} {v : Word} (h : s.push v = .ok t) : s.Keeps t := by
  obtain ⟨pas, -, rfl⟩ := State.push_ok.mp h
  exact ((State.Keeps.refl s).store _ _).setR _ _

theorem pushOperand_keeps {a : Operand} : s.KeepsOk (pushOperand a s) := by
  intro t h
  simp only [pushOperand, Result.bind_ok, Except.ok.injEq] at h
  obtain ⟨-, -, v, -, u, hu, rfl⟩ := h
  exact (State.push_keeps hu).advance _

theorem popOperand_keeps {a : Operand} : s.KeepsOk (popOperand a s) := by
  intro t h
  simp only [popOperand, Result.bind_ok, Except.ok.injEq] at h
  obtain ⟨-, -, -, -, -, -, slot, -, d, -, u, hu, rfl⟩ := h
  exact ((State.writeTarget_keeps hu).setR _ _).advance _

theorem pushGprCore_keeps {r : BitVec 4} : s.KeepsOk (pushGprCore r s) := by
  intro t h
  simp only [pushGprCore, Result.bind_ok, Except.ok.injEq] at h
  obtain ⟨u, hu, rfl⟩ := h
  exact (State.push_keeps hu).advance _

theorem popGprCore_keeps {r : BitVec 4} : s.KeepsOk (popGprCore r s) := by
  intro t h
  simp only [popGprCore, Result.bind_ok, Except.ok.injEq] at h
  obtain ⟨slot, -, rfl⟩ := h
  exact (((State.Keeps.refl s).setR _ _).setR _ _).advance _

theorem State.conditionalMove_keeps {nip : Word} {p q : Place} {holds : Bool} :
    s.KeepsOk (s.conditionalMove nip p q holds) := by
  intro t h
  simp only [State.conditionalMove, Result.bind_ok] at h
  obtain ⟨v, -, d, -, h⟩ := h
  split at h
  · simp only [Result.bind_ok, Except.ok.injEq] at h
    obtain ⟨u, hu, rfl⟩ := h
    exact (State.writeTarget_keeps hu).advance _
  · obtain ⟨rfl⟩ := h; exact (State.Keeps.refl s).advance _

theorem moveIfOperand_keeps {cc : Cond} {a b c : Operand} : s.KeepsOk (moveIfOperand cc a b c s) := by
  intro t h
  simp only [moveIfOperand, Result.bind_ok] at h
  obtain ⟨-, -, -, -, h⟩ := h
  split at h
  · simp only [Result.bind_ok] at h
    obtain ⟨-, -, w, -, h⟩ := h
    exact State.conditionalMove_keeps t h
  · cases h

theorem moveIf_keeps {cc : Cond} {a b : Operand} : s.KeepsOk (moveIf cc a b s) := by
  intro t h
  simp only [moveIf, Result.bind_ok] at h
  obtain ⟨-, -, -, -, -, -, h⟩ := h
  exact State.conditionalMove_keeps t h

theorem compare2_keeps {fl : Word → Word → Word → Nat → Word} (hfl : ∀ x y n, KeepsReserved (fl · x y n))
    {a b : Operand} : s.KeepsOk (compare2 fl a b s) := by
  intro t h
  simp only [compare2, Result.bind_ok, Except.ok.injEq] at h
  obtain ⟨-, -, -, -, -, -, x, -, y, -, rfl⟩ := h
  exact ((State.Keeps.refl s).withFlags (hfl x y _)).advance _

theorem compareGpr_keeps {fl : Word → Word → Word → Nat → Word} (hfl : ∀ x y n, KeepsReserved (fl · x y n))
    {r : BitVec 4} {a : Operand} : s.KeepsOk (compareGpr fl r a s) := by
  intro t h
  simp only [compareGpr, Result.bind_ok, Except.ok.injEq] at h
  obtain ⟨-, -, y, -, rfl⟩ := h
  exact ((State.Keeps.refl s).withFlags (hfl _ y 64)).advance _

/-! ### Atomic operations -/

theorem exchange_keeps {a b : Operand} : s.KeepsOk (exchange a b s) := by
  intro t h
  simp only [exchange, Result.bind_ok, Except.ok.injEq] at h
  obtain ⟨-, -, -, -, d, -, e, -, y, -, x, -, _, hd, _, he, rfl⟩ := h
  exact (((State.Keeps.refl s).setTarget hd).setTarget he).advance _

/-- Where the new value is stored, the check of operand 2 has no effect (45_atomic_fence.md R372). -/
theorem compareExchange_keeps {fails : Bool} {a b c : Operand} : s.KeepsOk (compareExchange fails a b c s) := by
  intro t h
  simp only [compareExchange, Result.bind_ok] at h
  obtain ⟨-, -, -, -, d, -, e, -, new, -, expected, -, old, -, _, hd, h⟩ := h
  generalize (old == expected && !fails) = same at hd h
  have hk := ((State.Keeps.refl s).setTarget hd).withFlags (putBit_keepsReserved (i := bitZ) (by decide) same)
  cases same
  · split at h
    next he => obtain ⟨rfl⟩ := h; exact (hk.setTarget he).advance _
    next => cases h
  · split at h
    next => obtain ⟨rfl⟩ := h; exact hk.advance _
    next => obtain ⟨rfl⟩ := h; exact hk.advance _

theorem fenceCore_keeps : s.KeepsOk (fenceCore s) := by
  rintro t ⟨rfl⟩; exact (State.Keeps.refl s).congr rfl

/-! ### Branches -/

theorem State.takeBranch_keeps {d : Word} : s.KeepsOk (s.takeBranch d) := by
  intro t h
  obtain ⟨-, rfl⟩ := State.takeBranch_ok.mp h
  exact (State.Keeps.refl s).jump d

theorem branchIf_keeps {cc : Cond} {rel : Bool} {d : SizedImm} : s.KeepsOk (branchIf cc rel d s) := by
  unfold branchIf
  split
  · exact State.takeBranch_keeps
  · rintro t ⟨rfl⟩; exact (State.Keeps.refl s).advance _

theorem State.callTo_keeps {d nip : Word} : s.KeepsOk (s.callTo d nip) := by
  intro t h
  obtain ⟨pas, -, -, rfl⟩ := State.callTo_ok.mp h
  exact (((State.Keeps.refl s).jump d).store _ _).setR _ _

theorem State.fastCallTo_keeps {d nip : Word} : s.KeepsOk (s.fastCallTo d nip) := by
  intro t h
  obtain ⟨-, rfl⟩ := State.fastCallTo_ok.mp h
  exact ((State.Keeps.refl s).jump d).setR _ _

theorem returnCore_keeps : s.KeepsOk (returnCore s) := by
  intro t h
  simp only [returnCore, Result.bind_ok, Except.ok.injEq] at h
  obtain ⟨pas, -, -, -, rfl⟩ := h
  exact ((State.Keeps.refl s).jump _).setR _ _

/-! ### Register images -/

theorem storeGprs_keeps {a : Operand} : s.KeepsOk (storeGprs a s) := by
  intro t h
  simp only [storeGprs, Result.bind_ok, Except.ok.injEq] at h
  obtain ⟨-, -, addr, -, pas, -, rfl⟩ := h
  exact ((State.Keeps.refl s).store _ _).advance _

theorem storeProgramRegisters_keeps {a : Operand} : s.KeepsOk (storeProgramRegisters a s) := by
  intro t h
  simp only [storeProgramRegisters, Result.bind_ok, Except.ok.injEq] at h
  obtain ⟨-, -, addr, -, pas, -, rfl⟩ := h
  exact ((State.Keeps.refl s).storeBlocks _ _ _).advance _

theorem storeRegisterFile_keeps {a : Operand} : s.KeepsOk (storeRegisterFile a s) := by
  intro t h
  simp only [storeRegisterFile, Result.bind_ok, Except.ok.injEq] at h
  obtain ⟨-, -, -, -, addr, -, pas, -, rfl⟩ := h
  exact ((State.Keeps.refl s).storeBlocks _ _ _).advance _

theorem pushGprs_keeps : s.KeepsOk (pushGprs s) := by
  intro t h
  simp only [pushGprs, Result.bind_ok, Except.ok.injEq] at h
  obtain ⟨pas, -, rfl⟩ := h
  exact (((State.Keeps.refl s).store _ _).setR _ _).advance _

theorem pushProgramRegisters_keeps : s.KeepsOk (pushProgramRegisters s) := by
  intro t h
  simp only [pushProgramRegisters, Result.bind_ok, Except.ok.injEq] at h
  obtain ⟨pas, -, rfl⟩ := h
  exact (((State.Keeps.refl s).storeBlocks _ _ _).setR _ _).advance _

theorem restoreGprs_keeps {a : Operand} : s.KeepsOk (restoreGprs a s) := by
  intro t h
  simp only [restoreGprs, Result.bind_ok, Except.ok.injEq] at h
  obtain ⟨-, -, addr, -, pas, -, rfl⟩ := h
  exact (State.Keeps.refl s).congr rfl

theorem popGprs_keeps : s.KeepsOk (popGprs s) := by
  intro t h
  simp only [popGprs, Result.bind_ok, Except.ok.injEq] at h
  obtain ⟨pas, -, rfl⟩ := h
  exact (State.Keeps.refl s).congr rfl

theorem State.loadProgramRegisters_keeps {pas : List Nat} : s.KeepsOk (s.loadProgramRegisters pas) := by
  intro t h
  simp only [State.loadProgramRegisters, Result.bind_ok, Except.ok.injEq] at h
  obtain ⟨-, -, rfl⟩ := h
  have loaded : s.Keeps (s.loadGprs pas) := (State.Keeps.refl s).congr rfl
  exact (loaded.writeFlags (s.loadSlot pas 17)).congr rfl

theorem restoreProgramRegisters_keeps {a : Operand} : s.KeepsOk (restoreProgramRegisters a s) := by
  intro t h
  simp only [restoreProgramRegisters, Result.bind_ok, Except.ok.injEq] at h
  obtain ⟨-, -, addr, -, pas, -, u, hu, rfl⟩ := h
  exact (State.loadProgramRegisters_keeps u hu).advance _

theorem popProgramRegisters_keeps : s.KeepsOk (popProgramRegisters s) := by
  intro t h
  simp only [popProgramRegisters, Result.bind_ok, Except.ok.injEq] at h
  obtain ⟨pas, -, u, hu, rfl⟩ := h
  exact (State.loadProgramRegisters_keeps u hu).advance _

/-- The control registers of a full image are loaded after their check, `flags` without its reserved bits
(48_supervisor.md R467). -/
theorem restoreRegisterFile_keeps {a : Operand} : s.KeepsOk (restoreRegisterFile a s) := by
  intro t h
  simp only [restoreRegisterFile, Result.bind_ok, require_ok, Except.ok.injEq] at h
  obtain ⟨-, -, -, -, addr, -, pas, -, -, -, _, hlegal, rfl⟩ := h
  simp only [State.controlSlotsLegal, Bool.and_eq_true, beq_iff_eq] at hlegal
  obtain ⟨⟨⟨hcr0, hflprotect⟩, -⟩, hciread⟩ := hlegal
  have loaded : s.Keeps (s.loadGprs pas) := (State.Keeps.refl s).congr rfl
  have hk := loaded.setPaging (c := s.loadSlot pas 128) (p := s.loadSlot pas 129) fun _ => hcr0
  refine ⟨{ hk.constants with }, fun hs => ?_⟩
  exact
    { memory := (hk.inv hs).memory
      flagsReserved := flagsReserved_and_mask _
      cr0Legal := (hk.inv hs).cr0Legal
      flprotectReserved := hflprotect
      cireadReserved := hciread }

/-! ### Devices and supervisor instructions -/

theorem State.writeEnableWord_keeps {n : Fin 128} {v : Word} : s.KeepsOk (s.writeEnableWord n v) := by
  intro t h
  have enabled : s.Keeps { s with enableWord := s.enableWord.set n v } := (State.Keeps.refl s).congr rfl
  unfold State.writeEnableWord at h
  split at h
  · split at h
    · cases h
    split at h
    · obtain ⟨rfl⟩ := h
      split
      · exact State.Keeps.refl s
      · exact (State.Keeps.refl s).congr rfl
    · obtain ⟨rfl⟩ := h; exact enabled
  split at h
  · cases h
  split at h
  · cases h
  split at h
  · simp only [Result.bind_ok, Except.ok.injEq] at h
    obtain ⟨registers, -, rfl⟩ := h
    exact (State.Keeps.refl s).congr rfl
  · obtain ⟨rfl⟩ := h; exact enabled

theorem State.writeLoadPointer_keeps {n : Fin 128} {v : Word} : s.KeepsOk (s.writeLoadPointer n v) := by
  unfold State.writeLoadPointer
  split
  · exact s.keepsOk_error _
  · rintro t ⟨rfl⟩; exact (State.Keeps.refl s).congr rfl

theorem State.queryCpuInfo_keeps {n : Nat} {v : Word} : s.KeepsOk (s.queryCpuInfo n v) := by
  intro t h
  simp only [State.queryCpuInfo, Result.bind_ok, Except.ok.injEq] at h
  obtain ⟨pas, -, rfl⟩ := h
  exact (State.Keeps.refl s).store _ _

theorem State.ioWrite_keeps {addr v : Word} {z : Size} : s.KeepsOk (s.ioWrite addr z v) := by
  have ignored : s.KeepsOk (.ok s) := by rintro t ⟨rfl⟩; exact State.Keeps.refl s
  unfold State.ioWrite
  split
  · cases s.device addr with
    | absent | cpuCount | machine => exact ignored
    | cpuInfo n => exact State.queryCpuInfo_keeps
    | loadPointer n => exact State.writeLoadPointer_keeps
    | enableWord n => exact State.writeEnableWord_keeps
  · exact ignored

theorem readDevice_keeps {z : Size} : s.KeepsOk (readDevice z s) := by
  intro t h
  simp only [readDevice, Result.bind_ok, Except.ok.injEq] at h
  obtain ⟨-, -, rfl⟩ := h
  have hf : KeepsReserved (unaryFlags · (s.ioRead (s.r 2) z) z.bits) := unaryFlags_keepsReserved _ _
  exact ((State.Keeps.refl s).withFlags hf).congr rfl

theorem writeDevice_keeps {z : Size} : s.KeepsOk (writeDevice z s) := by
  intro t h
  simp only [writeDevice, Result.bind_ok, Except.ok.injEq] at h
  obtain ⟨-, -, u, hu, rfl⟩ := h
  exact (State.ioWrite_keeps u hu).congr rfl

theorem haltCore_keeps : s.KeepsOk (haltCore s) := by
  intro t h
  simp only [haltCore, Result.bind_ok, Except.ok.injEq] at h
  obtain ⟨-, -, rfl⟩ := h
  exact (State.Keeps.refl s).congr rfl

/-- The late page fault of `pcfl` is taken from the flushed state (48_supervisor.md R456). -/
theorem flushPageCaches_keeps : s.KeepsNext (flushPageCaches s) := by
  have flushed : s.Keeps (s.sync .pageFlush).dropTranslations := (State.Keeps.refl s).congr rfl
  refine State.KeepsOk.finish_of (fun t h => ?_) ?_
  · simp only [Result.bind_ok, Except.ok.injEq] at h
    obtain ⟨-, -, -, -, rfl⟩ := h
    exact flushed.congr rfl
  · split
    · exact State.Keeps.refl s
    · exact flushed

theorem flushAll_keeps : s.KeepsOk (flushAll s) := by
  intro t h
  simp only [flushAll, Result.bind_ok, Except.ok.injEq] at h
  obtain ⟨-, -, rfl⟩ := h
  exact (State.Keeps.refl s).congr rfl

theorem flushData_keeps {a : Operand} : s.KeepsOk (flushData a s) := by
  intro t h
  simp only [flushData, Result.bind_ok, Except.ok.injEq] at h
  obtain ⟨-, -, -, -, m, -, pas, -, rfl⟩ := h
  exact (State.Keeps.refl s).congr rfl

theorem flushInstructions_keeps {a : Operand} : s.KeepsOk (flushInstructions a s) := by
  intro t h
  simp only [flushInstructions, Result.bind_ok, Except.ok.injEq] at h
  obtain ⟨-, -, -, -, m, -, -, -, pas, -, rfl⟩ := h
  exact (State.Keeps.refl s).congr rfl

/-! ### Forcing transfers and returns -/

theorem jumpSetMode_keeps {rel : Bool} {d : SizedImm} : s.KeepsOk (jumpSetMode rel d s) := by
  intro t h
  simp only [jumpSetMode, Result.bind_ok, Except.ok.injEq] at h
  obtain ⟨-, -, -, -, rfl⟩ := h
  exact (State.Keeps.refl s).congr rfl

theorem callSetMode_keeps {v rel : Bool} {d : SizedImm} : s.KeepsOk (callSetMode v rel d s) := by
  intro t h
  simp only [callSetMode, Result.bind_ok, Except.ok.injEq] at h
  obtain ⟨-, -, pas, -, -, -, rfl⟩ := h
  have jumped : s.Keeps (s.jump (s.branchDest rel d)) := (State.Keeps.refl s).jump _
  cases v
  · exact (jumped.store (pas.take 8) (leBytes 8 (s.nextIp (2 + d.bytes)).toNat)).congr rfl
  · exact ((jumped.store (pas.drop 8) (leBytes 8 s.mode.toNat)).store (pas.take 8)
      (leBytes 8 (s.nextIp (2 + d.bytes)).toNat)).congr rfl

theorem returnRestoreMode_keeps : s.KeepsOk (returnRestoreMode s) := by
  intro t h
  simp only [returnRestoreMode, Result.bind_ok, Except.ok.injEq] at h
  obtain ⟨pas, -, -, -, -, -, rfl⟩ := h
  exact (State.Keeps.refl s).congr rfl

theorem fastSupervisorCall_keeps : s.KeepsOk (fastSupervisorCall s) := by
  intro t h
  simp only [fastSupervisorCall, Result.bind_ok, Except.ok.injEq] at h
  obtain ⟨-, -, rfl⟩ := h
  split <;> exact (State.Keeps.refl s).congr rfl

theorem stackSupervisorCall_keeps : s.KeepsOk (stackSupervisorCall s) := by
  intro t h
  simp only [stackSupervisorCall, Result.bind_ok, Except.ok.injEq] at h
  obtain ⟨pas, -, -, -, rfl⟩ := h
  exact ((State.Keeps.refl s).store pas (wordsBytes (s.frame (s.nextIp 2)))).congr rfl

theorem supervisorCall_keeps : s.KeepsOk (supervisorCall s) := by
  intro t h
  simp only [supervisorCall, Result.bind_ok] at h
  obtain ⟨-, -, -, -, h⟩ := h
  split at h
  · exact fastSupervisorCall_keeps t h
  · exact stackSupervisorCall_keeps t h

theorem softwareInterrupt_keeps {i : BitVec 4} : s.KeepsOk (softwareInterrupt i s) := by
  have delivered : s.KeepsOk (.ok (s.deliver (16 + i.toNat) (s.nextIp 2))) := by
    rintro t ⟨rfl⟩; exact (State.Keeps.refl s).deliver _ _
  simp only [softwareInterrupt]
  split
  · split
    · exact s.keepsOk_error _
    · exact delivered
    · split
      · exact s.keepsOk_error _
      · exact delivered
  · rintro t ⟨rfl⟩; exact (State.Keeps.refl s).jump _

/-- The return from an exception loads `flags` without its reserved bits (47_forcing_transfers.md R441). -/
theorem State.returnFromException_keeps : s.KeepsOk s.returnFromException := by
  intro t h
  obtain ⟨pas, -, -, rfl⟩ := State.returnFromException_ok.mp h
  have masked : KeepsReserved fun _ => s.loadSlot pas 2 &&& flagsMask := fun _ _ => flagsReserved_and_mask _
  exact ((State.Keeps.refl s).withFlags masked).congr rfl

theorem interruptReturn_keeps : s.KeepsOk (interruptReturn s) := by
  intro t h
  simp only [interruptReturn, Result.bind_ok] at h
  obtain ⟨-, -, h⟩ := h
  exact State.returnFromException_keeps t h

theorem supervisorReturn_keeps : s.KeepsOk (supervisorReturn s) := by
  intro t h
  simp only [supervisorReturn, Result.bind_ok] at h
  obtain ⟨-, -, h⟩ := h
  split at h
  · simp only [Result.bind_ok, Except.ok.injEq] at h
    obtain ⟨-, -, rfl⟩ := h
    exact (State.Keeps.refl s).congr rfl
  · exact State.returnFromException_keeps t h

theorem undefinedInstruction_keeps : s.KeepsNext (undefinedInstruction s) := (s.keepsOk_error _).finish

theorem machineInstruction_keeps {opcode : BitVec 12} : s.KeepsNext (machineInstruction opcode s) := by
  refine State.KeepsOk.finish ?_
  split
  · split <;> exact s.keepsOk_error _
  · exact s.keepsOk_error _

end Sys2Proof.Machine
end

section
/-! PROOF. Every instruction and every step keeps the constants and the invariant. -/

namespace Sys2Proof.Machine

/-- Every instruction keeps the constants and the invariant: each is one of the meanings above, those not named here being
the conditional branches. -/
theorem exec_keeps (i : Instr) (s : State) : s.KeepsNext (exec i s) := by
  cases i with
  | und000 | undFFF => exact undefinedInstruction_keeps
  | add => exact (alu2_keeps addFlags_keepsReserved).finish
  | sub => exact (alu2_keeps subFlags_keepsReserved).finish
  | and | or | xor => exact (alu2_keeps (logicOf_keepsReserved _)).finish
  | addTogpr => exact (aluToGpr_keeps addFlags_keepsReserved).finish
  | subTogpr => exact (aluToGpr_keeps subFlags_keepsReserved).finish
  | andTogpr | orTogpr | xorTogpr => exact (aluToGpr_keeps (logicOf_keepsReserved _)).finish
  | addFromgpr => exact (aluFromGpr_keeps addFlags_keepsReserved).finish
  | subFromgpr => exact (aluFromGpr_keeps subFlags_keepsReserved).finish
  | andFromgpr | orFromgpr | xorFromgpr => exact (aluFromGpr_keeps (logicOf_keepsReserved _)).finish
  | mul => exact multiply_keeps.finish
  | imul => exact multiplySigned_keeps.finish
  | div => exact divide_keeps.finish
  | idiv => exact divideSigned_keeps.finish
  | movsx => exact moveSigned_keeps.finish
  | bswap => exact swapBytes_keeps.finish
  | lsh | rsh | arsh | lshc | rshc | lrot | rrot => exact shift2_keeps.finish
  | lshGpr | rshGpr | arshGpr | lshcGpr | rshcGpr | lrotGpr | rrotGpr => exact shiftGpr_keeps.finish
  | bnot | neg => exact unary_keeps.finish
  | bnotGpr | negGpr => exact unaryGpr_keeps.finish
  | mov => exact move_keeps.finish
  | lea => exact loadAddress_keeps.finish
  | movTogpr => exact moveToGpr_keeps.finish
  | movFromgpr => exact moveFromGpr_keeps.finish
  | leaTogpr => exact loadAddressToGpr_keeps.finish
  | nop | nop1 | nop2 | nop3 => exact noOperation_keeps.finish
  | push => exact pushOperand_keeps.finish
  | pop => exact popOperand_keeps.finish
  | pushReg => exact pushGprCore_keeps.finish
  | popReg => exact popGprCore_keeps.finish
  | cmovt => exact moveIfOperand_keeps.finish
  | cmov => exact moveIf_keeps.finish
  | cmp => exact (compare2_keeps subFlags_keepsReserved).finish
  | test => exact (compare2_keeps testFlags_keepsReserved).finish
  | cmpGpr => exact (compareGpr_keeps subFlags_keepsReserved).finish
  | testGpr => exact (compareGpr_keeps testFlags_keepsReserved).finish
  | xchg => exact exchange_keeps.finish
  | cmpxchg | wcmpxchg => exact compareExchange_keeps.finish
  | fence => exact fenceCore_keeps.finish
  | stogpr => exact storeGprs_keeps.finish
  | stoar => exact storeProgramRegisters_keeps.finish
  | rstogpr => exact restoreGprs_keeps.finish
  | rstoar => exact restoreProgramRegisters_keeps.finish
  | pushgpr => exact pushGprs_keeps.finish
  | pushar => exact pushProgramRegisters_keeps.finish
  | popgpr => exact popGprs_keeps.finish
  | popar => exact popProgramRegisters_keeps.finish
  | storegf => exact storeRegisterFile_keeps.finish
  | rstregf => exact restoreRegisterFile_keeps.finish
  | jmpAbs | jmpRel | ijmpAbs | ijmpRel | fretAbs | fretRel | ifjmpAbs | ifjmpRel =>
    exact State.takeBranch_keeps.finish
  | callAbs | callRel | icallAbs | icallRel => exact State.callTo_keeps.finish
  | fcallAbs | fcallRel | ifcallAbs | ifcallRel => exact State.fastCallTo_keeps.finish
  | ret => exact returnCore_keeps.finish
  | jsmAbs | jsmRel => exact jumpSetMode_keeps.finish
  | callsmAbs | callsmRel => exact callSetMode_keeps.finish
  | retrsm => exact returnRestoreMode_keeps.finish
  | scall => exact supervisorCall_keeps.finish
  | int => exact softwareInterrupt_keeps.finish
  | scret => exact supervisorReturn_keeps.finish
  | reti => exact interruptReturn_keeps.finish
  | halt => exact haltCore_keeps.finish
  | pcfl => exact flushPageCaches_keeps
  | flall => exact flushAll_keeps.finish
  | dflush => exact flushData_keeps.finish
  | iflush => exact flushInstructions_keeps.finish
  | ioIn => exact readDevice_keeps.finish
  | ioOut => exact writeDevice_keeps.finish
  | machineFe0 | machineFe1 | machineFe2 | machineFe3 | machineFe4 | machineFe5 | machineFe6 | machineFe7 | machineFe8
  | machineFe9 | machineFea | machineFeb | machineFec | machineFed | machineFee | machineFef | machineFf0 | machineFf1
  | machineFf2 | machineFf3 | machineFf4 | machineFf5 | machineFf6 | machineFf7 | machineFf8 | machineFf9 | machineFfa
  | machineFfb | machineFfc | machineFfd | machineFfe => exact machineInstruction_keeps
  | _ => exact branchIf_keeps.finish

/-- Every step keeps the constants and the invariant: an event is delivered, nothing happens, or an instruction or the
exception of its fetch is followed by a tick. -/
theorem step_keeps {s t : State} (h : step s = .next t) : s.Keeps t := by
  have tick : ∀ {o}, s.KeepsNext o → ticked o = .next t → s.Keeps t := by
    intro o ho ht
    cases o with
    | next u => obtain ⟨rfl⟩ := ht; exact (ho u rfl).congr rfl
    | fault | refused => cases ht
  unfold step at h
  split at h
  · obtain ⟨rfl⟩ := h; exact ((State.Keeps.refl s).takeEvent _).congr rfl
  split at h
  · obtain ⟨rfl⟩ := h; exact State.Keeps.refl s
  split at h
  · exact tick (exec_keeps _ s) h
  · exact tick (s.keepsOk_error _).finish h

/-- Settles O58: the invariant is what `step_keeps` carries over. -/
theorem stepKeepsInvariant : Obligations.StepKeepsInvariant :=
  fun _ _ hs h => (step_keeps h).inv hs

/-- Settles O59: so are the CPUInfo registers and the parameters. -/
theorem stepKeepsConstants : Obligations.StepKeepsConstants :=
  fun _ _ h => (step_keeps h).constants

end Sys2Proof.Machine
end

section
/-! PROOF. Stores to translated addresses: memory operands (20_memory.md R82, R106) and the record of a page
fault (R132, R133). -/

namespace Sys2Proof.Machine

/-- A store to the addresses of a translated range of at most a page: the bytes stand there, and no other byte changes. -/
theorem State.storedAt_store (s : State) {w : State} {xm : Bool} {kind : Access} {addr : Word} {pas : List Nat}
    {bs : List Byte} {n : Nat} (h : w.translateRange xm kind addr n = .ok pas) (hl : bs.length = n) (hn : n ≤ 4096) :
    StoredAt s (s.store pas bs) pas bs :=
  ⟨s.bytesAt_store pas bs (State.translateRange_nodup h hn) ((State.translateRange_length h).trans hl.symm),
    s.get_store_of_notMem pas bs⟩

/-- The word at addresses that hold the bytes of a value which fits them and the word. -/
theorem State.loadWord_of_bytesAt {s : State} {pas : List Nat} {n v : Nat} (h : s.bytesAt pas = leBytes n v)
    (hv : v < 256 ^ n) (hw : v < 2 ^ 64) : (s.loadWord pas).toNat = v := by
  rw [State.loadWord, State.load, h, leValue_leBytes, BitVec.toNat_ofNat, Nat.mod_eq_of_lt hv, Nat.mod_eq_of_lt hw]

/-- Settles O6: an opened memory operand is its translated addresses, and writing it stores the bytes of the value there. -/
theorem memoryOperandWrite : Obligations.MemoryOperandWrite := by
  intro s addr v z t ht
  rcases State.openTarget_ok ht with ⟨_, _, h, _⟩ | ⟨addr', z', pas, h, hp, rfl⟩
  · cases h
  · obtain ⟨rfl, rfl⟩ := h
    have length : pas.length = z.bytes := State.translateRange_length hp
    have size : z.bytes ≤ 8 := by cases z <;> decide
    have fits : v.toNat % 2 ^ z.bits < 2 ^ z.bits := Nat.mod_lt _ (by positivity)
    have bytes : 2 ^ z.bits = 256 ^ z.bytes := by rw [Size.bits_eq, pow_mul]; norm_num
    have stored : StoredAt s (s.setTarget (truncBits z.bits v) (.mem pas)) pas
        (leBytes z.bytes (v.toNat % 2 ^ z.bits)) := by
      rw [State.setTarget, length, toNat_truncBits]
      exact s.storedAt_store hp (leBytes_length _ _) (by omega)
    refine ⟨pas, _, hp, rfl, State.writeTarget_ok.mpr ⟨rfl, rfl⟩, stored, ?_, rfl⟩
    exact State.loadWord_of_bytesAt stored.1 (bytes ▸ fits) (lt_of_le_of_lt (Nat.mod_le _ _) v.isLt)

/-! ### The fault record -/

/-- Delivering a number up to 15 is delivering an exception (60_exceptions.md R507). -/
theorem State.deliver_of_le (s : State) {n : Nat} (h : n ≤ 15) (sip : Word) :
    s.deliver n sip = s.deliverException n sip := if_pos h

/-- A page fault whose record may be written: the record is stored before the delivery (20_memory.md R133). -/
theorem State.takePageFault_of_ok {s : State} {f : PageFault} {pas : List Nat} (h0 : s.pfcharp ≠ 0)
    (h16 : s.pfcharp.toNat % 16 = 0)
    (h : { s with fcode := f.addr }.translateRange false .write s.pfcharp 16 = .ok pas) :
    s.takePageFault f = ({ s with fcode := f.addr }.store pas f.record).deliver 3 s.ip := by
  rw [State.deliver_of_le _ (by decide)]
  simp only [State.takePageFault, h0, h16, h, ne_eq, not_true_eq_false, if_false]

/-- A page fault whose record may not be written becomes ABRT (20_memory.md R133). -/
theorem State.takePageFault_of_error {s : State} {f : PageFault} (h0 : s.pfcharp ≠ 0)
    (h : s.pfcharp.toNat % 16 ≠ 0 ∨
      ∃ g, { s with fcode := f.addr }.translateRange false .write s.pfcharp 16 = .error g) :
    s.takePageFault f = { s with fcode := f.addr }.deliverAbort := by
  simp only [State.takePageFault, h0, if_false]
  split
  · rfl
  · next aligned =>
    obtain ⟨g, hg⟩ := h.resolve_left aligned
    rw [hg]

/-- The fault record is 16 bytes (20_memory.md R132). -/
theorem PageFault.record_length (f : PageFault) : f.record.length = 16 := by
  simp [PageFault.record]

/-- Settles O44: the record goes where its 16 bytes translate, or the fault becomes ABRT. -/
theorem pageFaultRecord : Obligations.PageFaultRecord := by
  intro s f h0
  refine ⟨fun pas h16 hp => ?_, State.takePageFault_of_error h0⟩
  refine ⟨State.store { s with fcode := f.addr } pas f.record, State.takePageFault_of_ok h0 h16 hp, rfl, ?_, rfl⟩
  exact State.storedAt_store { s with fcode := f.addr } hp f.record_length (by decide)

end Sys2Proof.Machine
end

section
/-! PROOF. Translation: the offset in the page, and the entries of the path that a walk follows (20_memory.md R112, R113, R118 to
R121). -/

namespace Sys2Proof.Machine

/-- Settles O7: a translation that answers passes the check of its physical address. -/
theorem translationKeepsOffset : Obligations.TranslationKeepsOffset := by
  intro s xm kind b p h
  obtain ⟨offset, valid, identity⟩ := State.translate_ok h
  obtain ⟨range, present⟩ := (s.physCheck_valid p).mp valid
  exact ⟨offset, range, present, identity⟩

/-- The entry that memory holds at a physical address. -/
def State.entryAt (s : State) (ea : Nat) : Word := BitVec.ofNat 64 (s.load ((List.range 8).map (ea + ·)))

/-- With no store since the last page-cache flush, a walk reads the entry that memory holds (20_memory.md R138). -/
theorem State.readEntry_of_ptHistory_nil {s : State} (h : s.ptHistory = []) (b : Word) (ea : Nat) :
    s.readEntry b ea = s.entryAt ea := by
  simp [State.readEntry, h, State.entryAt, State.load]

/-- The path at the lower page table. -/
theorem State.path_zero (s : State) (bits : Nat) (b : Word) (t : Nat) :
    s.path bits b 0 t = [s.entryAt (t + 8 * tableIndex bits 0 b)] := rfl

/-- The path from a table of a higher level: its entry, then the path from the table the entry leads to. -/
theorem State.path_succ (s : State) (bits : Nat) (b : Word) (l t : Nat) :
    s.path bits b (l + 1) t =
      s.entryAt (t + 8 * tableIndex bits (l + 1) b) ::
        s.path bits b l (addressPart (s.entryAt (t + 8 * tableIndex bits (l + 1) b))) := rfl

theorem State.path_ne_nil (s : State) (bits : Nat) (b : Word) (level t : Nat) : s.path bits b level t ≠ [] := by
  cases level with
  | zero => rw [State.path_zero]; exact List.cons_ne_nil _ _
  | succ l => rw [State.path_succ]; exact List.cons_ne_nil _ _

/-- What an entry that passes the checks of every entry has (20_memory.md R113, R118, R121). -/
theorem State.entryCheck_ok {s : State} {xm : Bool} {kind : Access} {b e : Word} {level : Nat}
    (h : s.entryCheck xm kind b e level = .ok ()) :
    (field e 0 2 ≠ 0 ∧ field e 5 5 = 0 ∧ (xm = true → e.getLsbD 2 = true)) ∧ (level ≠ 0 → field e 0 2 = 1) := by
  unfold State.entryCheck at h
  split at h
  · cases h
  next reserved =>
  split at h
  · cases h
  next nested =>
  split at h
  · cases h
  next present =>
  split at h
  · cases h
  next rights =>
  refine ⟨⟨present, not_not.mp reserved, fun hx => ?_⟩, fun hl => ?_⟩
  · simpa [hx] using rights
  · have : (field e 0 2).toNat ≤ 1 := not_lt.mp fun h1 => nested ⟨hl, h1⟩
    have : (field e 0 2).toNat ≠ 0 := fun h0 => present (BitVec.eq_of_toNat_eq h0)
    exact BitVec.eq_of_toNat_eq (show _ = 1 by omega)

/-- What a lower page entry that passes the checks against the access has (20_memory.md R119, R121). -/
theorem State.leafCheck_ok {s : State} {xm : Bool} {kind : Access} {b e : Word} {sxp : Bool}
    (h : s.leafCheck xm kind b e sxp = .ok ()) :
    (kind = .write → field e 0 2 = 2) ∧ (kind = .fetch → field e 0 2 = 3) ∧
      (kind = .fetch → xm = false → sxp = false) := by
  unfold State.leafCheck at h
  split at h
  · cases h
  next write =>
  split at h
  · cases h
  next fetch =>
  split at h
  · cases h
  next prevented =>
  refine ⟨fun hk => not_not.mp fun he => write ⟨hk, he⟩, fun hk => not_not.mp fun he => fetch ⟨hk, he⟩, fun hk hx => ?_⟩
  exact Bool.eq_false_iff.mpr fun hs => prevented ⟨hk, hs, hx⟩

/-- A walk that ends at the lower page table: its entry passes both checks and holds the page. -/
theorem State.walk_zero_ok {s : State} {xm : Bool} {kind : Access} {bits : Nat} {b : Word} {t : Nat} {via : Word × Byte}
    {sxp : Bool} {p : Nat} (hh : s.ptHistory = []) (h : s.walk xm kind bits b 0 t via sxp = .ok p) :
    let e := s.entryAt (t + 8 * tableIndex bits 0 b)
    s.entryCheck xm kind b e 0 = .ok () ∧ s.leafCheck xm kind b e (sxp || e.getLsbD 4) = .ok () ∧
      p = addressPart e + b.toNat % 4096 := by
  unfold State.walk at h
  simp only [bind, Except.bind, State.readEntry_of_ptHistory_nil hh] at h
  split at h
  · split at h
    · cases h
    next entry =>
    split at h
    · cases h
    next leaf =>
    split at h
    · cases h; exact ⟨entry, leaf, rfl⟩
    · cases h
  · cases h

/-- A walk that goes on from a higher table: its entry passes the checks and leads to the next table. -/
theorem State.walk_succ_ok {s : State} {xm : Bool} {kind : Access} {bits : Nat} {b : Word} {l t : Nat}
    {via : Word × Byte} {sxp : Bool} {p : Nat} (hh : s.ptHistory = [])
    (h : s.walk xm kind bits b (l + 1) t via sxp = .ok p) :
    let e := s.entryAt (t + 8 * tableIndex bits (l + 1) b)
    s.entryCheck xm kind b e (l + 1) = .ok () ∧
      ∃ via', s.walk xm kind bits b l (addressPart e) via' (sxp || e.getLsbD 4) = .ok p := by
  unfold State.walk at h
  simp only [bind, Except.bind, State.readEntry_of_ptHistory_nil hh] at h
  split at h
  · split at h
    · cases h
    next entry => exact ⟨entry, _, h⟩
  · cases h

/-- What the entries of a path grant an access of `b` that reaches `p`. -/
structure PathGrants (xm : Bool) (kind : Access) (b : Word) (p : Nat) (path : List Word) : Prop where
  entries : ∀ e ∈ path, field e 0 2 ≠ 0 ∧ field e 5 5 = 0 ∧ (xm = true → e.getLsbD 2 = true)
  nested : ∀ e ∈ path.dropLast, field e 0 2 = 1
  leaf : ∀ e, path.getLast? = some e →
    p = addressPart e + b.toNat % 4096 ∧ (kind = .write → field e 0 2 = 2) ∧ (kind = .fetch → field e 0 2 = 3)
  sxpClear : kind = .fetch → xm = false → ∀ e ∈ path, e.getLsbD 4 = false

/-- A walk that answers has followed a path whose entries grant the access, and met no SXP before it that prevents it. -/
theorem State.walk_grants {s : State} {xm : Bool} {kind : Access} {bits : Nat} {b : Word} {level t : Nat}
    {via : Word × Byte} {sxp : Bool} {p : Nat} (hh : s.ptHistory = [])
    (h : s.walk xm kind bits b level t via sxp = .ok p) :
    PathGrants xm kind b p (s.path bits b level t) ∧ (kind = .fetch → xm = false → sxp = false) := by
  induction level generalizing t via sxp with
  | zero =>
    obtain ⟨entry, leaf, hp⟩ := State.walk_zero_ok hh h
    obtain ⟨write, fetch, prevented⟩ := State.leafCheck_ok leaf
    simp only [Bool.or_eq_false_iff] at prevented
    rw [State.path_zero]
    refine ⟨⟨?_, by simp, ?_, ?_⟩, fun hk hx => (prevented hk hx).1⟩
    · simpa using (State.entryCheck_ok entry).1
    · simpa using ⟨hp, write, fetch⟩
    · simpa using fun hk hx => (prevented hk hx).2
  | succ l ih =>
    obtain ⟨entry, via', hw⟩ := State.walk_succ_ok hh h
    obtain ⟨common, one⟩ := State.entryCheck_ok entry
    obtain ⟨rest, prevented⟩ := ih hw
    simp only [Bool.or_eq_false_iff] at prevented
    rw [State.path_succ]
    refine ⟨⟨List.forall_mem_cons.mpr ⟨common, rest.entries⟩, ?_, ?_, fun hk hx => ?_⟩, fun hk hx => (prevented hk hx).1⟩
    · rw [List.dropLast_cons_of_ne_nil (s.path_ne_nil _ _ _ _)]
      exact List.forall_mem_cons.mpr ⟨one l.succ_ne_zero, rest.nested⟩
    · rw [List.getLast?_cons_of_ne_nil (s.path_ne_nil _ _ _ _)]
      exact rest.leaf
    · exact List.forall_mem_cons.mpr ⟨(prevented hk hx).2, rest.sxpClear hk hx⟩

/-- With paging off, a valid physical address translates to itself (20_memory.md R100). -/
theorem State.translate_of_pg_off {s : State} (hpg : s.pg = false) {xm : Bool} {kind : Access} {b : Word}
    (h : s.physCheck b.toNat = .valid) : s.translate xm kind b = .ok b.toNat := by
  simp only [State.translate, hpg, h, Bool.false_eq_true, if_false]

/-- With paging on, a translation that answers is a walk from the top table. -/
theorem State.translate_walk {s : State} {xm : Bool} {kind : Access} {b : Word} {p bits : Nat} (hpg : s.pg = true)
    (hbits : addressBits (ptlOf s.cr0) = some bits) (h : s.translate xm kind b = .ok p) :
    ∃ via, s.walk xm kind bits b (topLevel (ptlOf s.cr0)) (addressPart s.page) via false = .ok p := by
  simp only [State.translate, State.translateVirtual, hpg, hbits, if_true] at h
  split at h
  · cases h
  split at h
  · exact ⟨_, h⟩
  · cases h

/-- Settles O8: the walk that answers has followed the path. -/
theorem translationRights : Obligations.TranslationRights := by
  intro s xm kind b p bits hpg hh hbits h
  obtain ⟨via, hw⟩ := State.translate_walk hpg hbits h
  obtain ⟨entries, nested, leaf, sxpClear⟩ := (State.walk_grants hh hw).1
  exact ⟨entries, nested, leaf, sxpClear⟩

end Sys2Proof.Machine
end

section
/-! PROOF. Fetches with no store outstanding (20_memory.md R155, R156; 60_exceptions.md R488). -/

namespace Sys2Proof.Machine

/-- With no store outstanding, a unit is fetched as memory holds it (20_memory.md R155). -/
theorem State.fetchUnit_of_recent_nil {s : State} (h : s.recent = []) (a : Word) (p : Nat) :
    s.fetchUnit a p = [s.mem.get p, s.mem.get (p + 1)] := by
  simp [State.fetchUnit, h]

/-- With no store outstanding and no change of the paging registers, code is mapped where it was entered
(70_reset_and_hazards.md R551). -/
theorem State.sameCodePage_of_recent_nil {s : State} (h : s.recent = []) (hv : s.codeView = none) (a : Word) :
    s.sameCodePage a = true := by
  simp [State.sameCodePage, h, hv]

/-- With no store outstanding and no change of mapping, the fetch of a unit that translates. -/
theorem State.fetchPair_of_translate {s : State} (h : s.recent = []) (hv : s.codeView = none) {a : Word} {p : Nat}
    (hp : s.translate s.xm .fetch a = .ok p) : s.fetchPair a = .ok [s.mem.get p, s.mem.get (p + 1)] :=
  Result.bind_ok.mpr ⟨p, paged_ok.mpr hp, by
    rw [if_pos (s.sameCodePage_of_recent_nil h hv a), s.fetchUnit_of_recent_nil h]⟩

/-- A fetch of a unit that does not translate is its page fault (60_exceptions.md R488). -/
theorem State.fetchPair_of_fault {s : State} {a : Word} {f : PageFault} (hf : s.translate s.xm .fetch a = .error f) :
    s.fetchPair a = .error (.exc (.pf f)) := by
  simp [State.fetchPair, hf, paged, raise, bind, Except.bind]

/-- The bytes memory holds in the units at the first `n` of the given physical addresses. -/
def State.unitsAt (s : State) (p : Nat → Nat) (n : Nat) : List Byte :=
  (List.range n).flatMap fun i => [s.mem.get (p i), s.mem.get (p i + 1)]

/-- The units at one address and at those after it. -/
theorem State.unitsAt_succ (s : State) (p : Nat → Nat) (n : Nat) :
    s.unitsAt p (n + 1) = [s.mem.get (p 0), s.mem.get (p 0 + 1)] ++ s.unitsAt (fun i => p (i + 1)) n := by
  simp only [State.unitsAt, List.range_succ_eq_map, List.flatMap_cons, List.flatMap_map, Nat.succ_eq_add_one]

/-- The units at consecutive even offsets are consecutive bytes. -/
theorem State.unitsAt_consecutive (s : State) (q n : Nat) :
    s.unitsAt (fun i => q + 2 * i) n = (List.range (2 * n)).map fun i => s.mem.get (q + i) := by
  induction n with
  | zero => rfl
  | succ n ih =>
    rw [Nat.mul_succ, List.range_succ, List.range_succ, List.map_append, List.map_append, ← ih]
    simp [State.unitsAt, List.range_succ, Nat.add_assoc]

/-- A fetch goes on behind `n` units that translate, whose bytes it takes from memory. -/
theorem State.fetchBytes_add {s : State} (h : s.recent = []) (hv : s.codeView = none) (k : Nat) {n : Nat} {a : Word}
    {p : Nat → Nat} (hp : ∀ i, i < n → s.translate s.xm .fetch (a + BitVec.ofNat 64 (2 * i)) = .ok (p i)) :
    s.fetchBytes (n + k) a =
      (s.unitsAt p n ++ (s.fetchBytes k (a + BitVec.ofNat 64 (2 * n))).1,
        (s.fetchBytes k (a + BitVec.ofNat 64 (2 * n))).2) := by
  induction n generalizing a p with
  | zero => simp [State.unitsAt]
  | succ n ih =>
    have shift : ∀ i, a + BitVec.ofNat 64 (2 * (i + 1)) = a + 2 + BitVec.ofNat 64 (2 * i) := fun i => by
      rw [Nat.mul_succ, Nat.add_comm, BitVec.ofNat_add, ← BitVec.add_assoc]; rfl
    have first : s.fetchPair a = .ok [s.mem.get (p 0), s.mem.get (p 0 + 1)] :=
      State.fetchPair_of_translate h hv (by simpa using hp 0 n.succ_pos)
    have rest := ih (a := a + 2) (p := fun i => p (i + 1)) fun i hi => shift i ▸ hp (i + 1) (Nat.succ_lt_succ hi)
    rw [Nat.add_right_comm, State.fetchBytes, first, shift, State.unitsAt_succ, List.append_assoc, rest]

/-- A fetch that starts at a unit which does not translate. -/
theorem State.fetchBytes_of_fault {s : State} {a : Word} {f : PageFault} (hf : s.translate s.xm .fetch a = .error f)
    (m : Nat) : s.fetchBytes (m + 1) a = ([], some (.exc (.pf f))) := by
  rw [State.fetchBytes, State.fetchPair_of_fault hf]

/-- Settles O9: the units that translate come from memory, and what follows them is nothing, or the fault. -/
theorem fetchReadsMemory : Obligations.FetchReadsMemory := by
  intro s n a h hv
  have fetched : ∀ {p : Nat → Nat}, (∀ i, i < n → s.translate s.xm .fetch (a + BitVec.ofNat 64 (2 * i)) = .ok (p i)) →
      s.fetchBytes n a = (s.unitsAt p n, none) := fun hp => by
    simpa [State.fetchBytes] using State.fetchBytes_add h hv 0 hp
  refine ⟨fun p _ hp => ⟨fetched hp, fun f m hf => ?_⟩, fun hpg hn hvalid => ?_⟩
  · have stopped := State.fetchBytes_add h hv (m + 1) hp
    rw [State.fetchBytes_of_fault hf, List.append_nil] at stopped
    rwa [Nat.add_assoc, Nat.add_comm 1 m]
  · rw [← s.unitsAt_consecutive]
    refine fetched fun i hi => ?_
    have value : (a + BitVec.ofNat 64 (2 * i)).toNat = a.toNat + 2 * i := by
      rw [BitVec.toNat_add, BitVec.toNat_ofNat]; omega
    rw [← value]
    exact State.translate_of_pg_off hpg (value ▸ hvalid (2 * i) (by omega))

end Sys2Proof.Machine
end

section
/-! PROOF. Decoding reads back what encoding writes (30_encoding.md R170 to R172, R200, R201, R210). -/

namespace Sys2Proof

/-- What follows the opcode word of an instruction: its destination immediate or its operands. -/
def Instr.tail (i : Instr) : List Byte :=
  match i.destination with
  | some d => d.toBytes
  | none => i.operands.flatMap Operand.encode

/-- An encoding is the opcode word and what follows it (30_encoding.md R170). -/
theorem encode_eq (i : Instr) : encode i = unitBytes i.head ++ i.tail := rfl

/-- A branch continues with its destination. -/
theorem Instr.tail_of_destination {i : Instr} {d : SizedImm} (h : i.destination = some d) : i.tail = d.toBytes := by
  rw [Instr.tail, h]

/-- An instruction without a destination continues with its operands. -/
theorem Instr.tail_of_operands {i : Instr} {os : List Operand} (hd : i.destination = none) (ho : i.operands = os) :
    i.tail = os.flatMap Operand.encode := by
  rw [Instr.tail, hd, ho]

/-- The form yields the instruction when it is completed by the parts of that instruction. -/
def Form.Builds : Form → Instr → Prop
  | .op0 j, i => j = i ∧ i.destination = none ∧ i.operands = []
  | .op1 k, i => ∃ a, k a = i ∧ i.destination = none ∧ i.operands = [a]
  | .op2 k, i => ∃ a b, k a b = i ∧ i.destination = none ∧ i.operands = [a, b]
  | .op3 k, i => ∃ a b c, k a b c = i ∧ i.destination = none ∧ i.operands = [a, b, c]
  | .dest16 k, i => ∃ d, k d = i ∧ i.destination = some (.i16 d)
  | .dest32 k, i => ∃ d, k d = i ∧ i.destination = some (.i32 d)
  | .dest64 k, i => ∃ d, k d = i ∧ i.destination = some (.i64 d)
  | .dest ss k, i => ∃ d, k d = i ∧ ss = d.code ∧ i.destination = some d

/-- A form that builds an instruction reads its parts back from their bytes. -/
theorem Form.Builds.complete {f : Form} {i : Instr} (h : f.Builds i) (rest : List Byte) :
    f.complete (i.tail ++ rest) = .ok (i, rest) := by
  cases f with
  | op0 j =>
    obtain ⟨rfl, hd, ho⟩ := h
    rw [Instr.tail_of_operands hd ho]
    rfl
  | op1 k =>
    obtain ⟨a, hi, hd, ho⟩ := h
    simp [Form.complete, Instr.tail_of_operands hd ho, takeOperand_encode, hi, bind, Except.bind]
  | op2 k =>
    obtain ⟨a, b, hi, hd, ho⟩ := h
    simp [Form.complete, Instr.tail_of_operands hd ho, takeOperand_encode, hi, bind, Except.bind]
  | op3 k =>
    obtain ⟨a, b, c, hi, hd, ho⟩ := h
    simp [Form.complete, Instr.tail_of_operands hd ho, takeOperand_encode, hi, bind, Except.bind]
  | dest16 k =>
    obtain ⟨d, hi, hd⟩ := h
    simp [Form.complete, Instr.tail_of_destination hd, SizedImm.toBytes, unit_join, hi]
  | dest32 k =>
    obtain ⟨d, hi, hd⟩ := h
    simp [Form.complete, Instr.tail_of_destination hd, SizedImm.toBytes, join4, hi]
  | dest64 k =>
    obtain ⟨d, hi, hd⟩ := h
    simp [Form.complete, Instr.tail_of_destination hd, SizedImm.toBytes, join8, hi]
  | dest ss k =>
    obtain ⟨d, hi, rfl, hd⟩ := h
    simp [Form.complete, Instr.tail_of_destination hd, takeImm_toBytes, hi, bind, Except.bind]

/-- An opcode word was decoded, and to a form that builds the instruction. -/
def ReadsAs (e : Except DecodeError Form) (i : Instr) : Prop := ∃ f, e = .ok f ∧ f.Builds i

/-- An opcode whose `h` is not checked is read as the form of its row. -/
theorem readsAs_ok {f : Form} {i : Instr} (h : f.Builds i) : ReadsAs (.ok f) i := ⟨f, rfl, h⟩

/-! ### The `h` nibble, read back from each of its formats (30_encoding.md R210) -/

/-- A nibble `[l0 0f]` is read back. -/
theorem hLockFlags_readsAs {l f : Bool} {k : Bool → Bool → Form} {i : Instr} (h : (k l f).Builds i) :
    ReadsAs (hLockFlags (hOfLockFlags l f) k) i :=
  ⟨_, by cases l <;> cases f <;> rfl, h⟩

/-- A nibble `[00 0f]` is read back. -/
theorem hFlags_readsAs {f : Bool} {k : Bool → Form} {i : Instr} (h : (k f).Builds i) :
    ReadsAs (hFlags (hOfLockFlags false f) k) i :=
  ⟨_, by cases f <;> rfl, h⟩

/-- A nibble `[ss 0f]` is read back. -/
theorem hMul_readsAs {z : Size} {f : Bool} {k : Size → Bool → Instr} {i : Instr} (h : (Form.op0 (k z f)).Builds i) :
    ReadsAs (hMul (hOfSizeWide z false f) k) i :=
  ⟨_, by cases z <;> cases f <;> rfl, h⟩

/-- A nibble `[ss wf]` is read back. -/
theorem hDiv_readsAs {z : Size} {w f : Bool} {k : Size → Bool → Bool → Instr} {i : Instr}
    (h : (Form.op0 (k z w f)).Builds i) : ReadsAs (hDiv (hOfSizeWide z w f) k) i :=
  ⟨_, by cases z <;> cases w <;> cases f <;> rfl, h⟩

/-- A zero nibble is admitted where `h` must be zero. -/
theorem hZero_readsAs {k : Form} {i : Instr} (h : k.Builds i) : ReadsAs (hZero 0 k) i := ⟨_, rfl, h⟩

/-- A nibble `[00 ss]` of a transfer size is read back. -/
theorem hSize_readsAs {z : Size} {k : Size → Instr} {i : Instr} (h : (Form.op0 (k z)).Builds i) :
    ReadsAs (hSize (0#2 ++ z.code) k) i :=
  ⟨_, by cases z <;> rfl, h⟩

/-- The size code of an immediate is not the reserved one (30_encoding.md R183). -/
theorem SizedImm.code_ne_reserved (d : SizedImm) : d.code ≠ 3 := by cases d <;> simp [SizedImm.code]

/-- The fields of `[00 ss]` for an immediate. -/
theorem fields_hOfDest (d : SizedImm) : field (hOfDest d) 2 2 = 0 ∧ field (hOfDest d) 0 2 = d.code := by
  rw [hOfDest]
  generalize d.code = c
  revert c
  decide

/-- The fields of `[v0 ss]`. -/
theorem fields_hOfPushDest (v : Bool) (d : SizedImm) :
    (hOfPushDest v d).getLsbD 3 = v ∧ (hOfPushDest v d).getLsbD 2 = false ∧ field (hOfPushDest v d) 0 2 = d.code := by
  rw [hOfPushDest]
  generalize d.code = c
  revert v c
  decide

/-- A nibble `[00 ss]` of a destination immediate is read back: its size is not the reserved one. -/
theorem hDest_readsAs {d : SizedImm} {k : SizedImm → Instr} {i : Instr} (h : (Form.dest d.code k).Builds i) :
    ReadsAs (hDest (hOfDest d) k) i := by
  obtain ⟨hi, lo⟩ := fields_hOfDest d
  exact ⟨_, by rw [hDest, lo, if_pos ⟨hi, d.code_ne_reserved⟩], h⟩

/-- A nibble `[v0 ss]` is read back. -/
theorem hPushDest_readsAs {v : Bool} {d : SizedImm} {k : Bool → SizedImm → Instr} {i : Instr}
    (h : (Form.dest d.code (k v)).Builds i) : ReadsAs (hPushDest (hOfPushDest v d) k) i := by
  obtain ⟨push, reserved, lo⟩ := fields_hOfPushDest v d
  exact ⟨_, by rw [hPushDest, lo, push, if_pos ⟨reserved, d.code_ne_reserved⟩], h⟩

/-! ### The opcode word -/

/-- The opcode map reads the word of every well-formed instruction back (30_encoding.md R200). `row` is the map at a known
opcode and `h` (its hole stands for the table at them); the cases are the formats of `h` and what follows the word, and
those not named are the conditional branches. -/
theorem decodeHead_readsAs (i : Instr) (hw : i.wellFormed = true) : ReadsAs (decodeHead i.head) i := by
  have row : ∀ {c h j}, ReadsAs _ j → ReadsAs (decodeHead (c ++ h)) j := fun {c h _} r => by
    unfold decodeHead
    rewrite [field_opcode, field_nibble]
    exact r
  cases i with
  | add | sub | and | or | xor | lsh | rsh | arsh | lshc | rshc | lrot | rrot =>
    exact row (hLockFlags_readsAs ⟨_, _, rfl, rfl, rfl⟩)
  | bnot | neg => exact row (hLockFlags_readsAs ⟨_, rfl, rfl, rfl⟩)
  | movsx | bswap => exact row (hFlags_readsAs ⟨_, _, rfl, rfl, rfl⟩)
  | mul | imul => exact row (hMul_readsAs ⟨rfl, rfl, rfl⟩)
  | div | idiv => exact row (hDiv_readsAs ⟨rfl, rfl, rfl⟩)
  | ioIn | ioOut => exact row (hSize_readsAs ⟨rfl, rfl, rfl⟩)
  | nop | pushgpr | pushar | popgpr | popar | fence | ret | scall | ifcallAbs | ifcallRel | retrsm | halt | pcfl | flall
  | scret | reti => exact row (hZero_readsAs ⟨rfl, rfl, rfl⟩)
  | nop1 | push | pop | stogpr | stoar | rstogpr | rstoar | dflush | iflush | storegf | rstregf =>
    exact row (hZero_readsAs ⟨_, rfl, rfl, rfl⟩)
  | mov | lea | nop2 | cmp | test | xchg => exact row (hZero_readsAs ⟨_, _, rfl, rfl, rfl⟩)
  | nop3 | cmpxchg | wcmpxchg => exact row (hZero_readsAs ⟨_, _, _, rfl, rfl, rfl⟩)
  | movTogpr | movFromgpr | leaTogpr | lshGpr | rshGpr | arshGpr | lshcGpr | rshcGpr | lrotGpr | rrotGpr | addTogpr
  | subTogpr | andTogpr | orTogpr | xorTogpr | addFromgpr | subFromgpr | andFromgpr | orFromgpr | xorFromgpr | cmpGpr
  | testGpr => exact row (readsAs_ok ⟨_, rfl, rfl, rfl⟩)
  | cmov => exact row (readsAs_ok ⟨_, _, by rw [Cond.ofCode_code], rfl, rfl⟩)
  | cmovt => exact row (readsAs_ok ⟨_, _, _, by rw [Cond.ofCode_code], rfl, rfl⟩)
  | jmpAbs | callAbs | fcallAbs | jsmAbs | jmpRel | callRel | fcallRel | jsmRel =>
    exact row (hDest_readsAs ⟨_, rfl, rfl, rfl⟩)
  | callsmAbs | callsmRel => exact row (hPushDest_readsAs ⟨_, rfl, rfl, rfl⟩)
  | ijmpAbs r | ijmpRel r =>
    obtain ⟨not14, not15⟩ : r ≠ 14 ∧ r ≠ 15 := by simpa [Instr.wellFormed] using hw
    exact row (readsAs_ok ⟨by rw [if_neg not14, if_neg not15], rfl, rfl⟩)
  | und000 | undFFF | pushReg | popReg | bnotGpr | negGpr | int | fretAbs | ifjmpAbs | icallAbs | fretRel | ifjmpRel
  | icallRel | machineFe0 | machineFe1 | machineFe2 | machineFe3 | machineFe4 | machineFe5 | machineFe6 | machineFe7
  | machineFe8 | machineFe9 | machineFea | machineFeb | machineFec | machineFed | machineFee | machineFef | machineFf0
  | machineFf1 | machineFf2 | machineFf3 | machineFf4 | machineFf5 | machineFf6 | machineFf7 | machineFf8 | machineFf9
  | machineFfa | machineFfb | machineFfc | machineFfd | machineFfe => exact row (readsAs_ok ⟨rfl, rfl, rfl⟩)
  | _ => exact row (readsAs_ok ⟨_, rfl, rfl⟩)

/-- Two bytes that are an opcode word, and what follows them. -/
theorem decode_unitBytes (w : BitVec 16) (bs : List Byte) :
    decode (unitBytes w ++ bs) = decodeHead w >>= fun f => f.complete bs := by
  simp only [unitBytes, List.cons_append, List.nil_append, decode, unit_join]

/-- Decoding reads a well-formed instruction back and leaves the bytes after it (30_encoding.md R170). -/
theorem decode_encode {i : Instr} (hw : i.wellFormed = true) (rest : List Byte) :
    decode (encode i ++ rest) = .ok (i, rest) := by
  obtain ⟨f, head, builds⟩ := decodeHead_readsAs i hw
  rw [encode_eq, List.append_assoc, decode_unitBytes, head]
  exact builds.complete rest

/-- The operands of an instruction are encoded in as many bytes as their lengths add up to (30_encoding.md R172). -/
theorem operands_encode_length (os : List Operand) :
    (os.flatMap Operand.encode).length = (os.map Operand.length).sum := by
  rw [List.length_flatMap]
  exact congrArg List.sum (List.map_congr_left fun o _ => Laws.EncodedLength.operand_length o)

/-- Settles O57: the opcode word reads as a form that the rest of the encoding completes, and the lengths of the parts
add up. -/
theorem decodeEncode : Obligations.DecodeEncode := by
  refine ⟨fun i rest hw => decode_encode hw rest, fun i => ?_⟩
  rw [encode_eq, List.length_append]
  cases hd : i.destination with
  | some d => rw [Instr.tail_of_destination hd, Laws.EncodedLength.immediate_length]; rfl
  | none => rw [Instr.tail_of_operands hd rfl, operands_encode_length]; rfl

end Sys2Proof
end

section
/-! PROOF. A step where no event is taken: it runs what it fetches, or takes the exception of the fetch
(60_exceptions.md R488 to R492). -/

namespace Sys2Proof.Machine

/-! ### The fetch -/

/-- An odd `ip` is misaligned. -/
theorem State.fetch_of_odd {s : State} (odd : s.ip.getLsbD 0 = true) : s.fetch = .error (.exc (.xa s.ip)) := by
  rw [State.fetch, odd]
  rfl

/-- At an even `ip`, the fetch answers the instruction that the bytes there decode to. -/
theorem State.fetch_of_decode_ok {s : State} {i : Instr} {rest : List Byte} (even : s.ip.getLsbD 0 = false)
    (h : decode (s.fetchBytes maxUnits s.ip).1 = .ok (i, rest)) : s.fetch = .ok i := by
  simp only [State.fetch, even, h]
  rfl

/-- At an even `ip`, the fetch fails where the bytes there do not decode. -/
theorem State.fetch_of_decode_error {s : State} {e : DecodeError} (even : s.ip.getLsbD 0 = false)
    (h : decode (s.fetchBytes maxUnits s.ip).1 = .error e) :
    s.fetch = .error (s.decodeTrap (s.fetchBytes maxUnits s.ip).1 (s.fetchBytes maxUnits s.ip).2 e) := by
  simp only [State.fetch, even, h]
  rfl

/-- Bytes that end before an unprivileged instruction does raise what stopped their fetch. -/
theorem State.decodeTrap_truncated {s : State} {bs : List Byte} {stop : Option Trap} {t : Trap}
    (unprivileged : (s.xm && startsSupervisor bs) = false) (h : stop = some t) :
    s.decodeTrap bs stop .truncated = t := by
  simp only [State.decodeTrap, unprivileged, h]
  rfl

/-! ### The step -/

/-- A step runs the instruction it fetches. -/
theorem step_of_fetch_ok {s : State} {i : Instr} (event : s.nextEvent = none) (running : s.halted = false)
    (h : s.fetch = .ok i) : step s = ticked (exec i s) := by
  simp [step, event, running, h]

/-- A step ends as a failed fetch does. -/
theorem step_of_fetch_error {s : State} {t : Trap} (event : s.nextEvent = none) (running : s.halted = false)
    (h : s.fetch = .error t) : step s = ticked (finish s (.error t)) := by
  simp [step, event, running, h]

/-- Settles O55: the fetch answers, or fails with the trap that the decoding error names. -/
theorem stepRunsDecoded : Obligations.StepRunsDecoded := by
  intro s event running took f protFirst
  refine ⟨fun odd => step_of_fetch_error event running (State.fetch_of_odd odd), fun even => ?_⟩
  have fails : ∀ {e t}, decode f.1 = .error e → s.decodeTrap f.1 f.2 e = t → step s = ticked (finish s (.error t)) :=
    fun hd ht => step_of_fetch_error event running (ht ▸ State.fetch_of_decode_error even hd)
  refine ⟨fun i rest hd => ?_, ?_, fun hd hp => ?_, ?_, fun hd hp => ?_⟩
  · have runs := step_of_fetch_ok event running (State.fetch_of_decode_ok even hd)
    exact ⟨fun _ ht => runs.trans (congrArg ticked ht), fun _ hx => runs.trans (congrArg ticked hx),
      fun _ hr => runs.trans (congrArg ticked hr)⟩
  · rintro (hd | hd) <;> exact fails hd rfl
  · exact fails hd (if_neg (Bool.eq_false_iff.mp hp))
  · rintro (hd | hd) hp <;> exact fails hd (if_pos hp)
  · exact ⟨fun _ hf => fails hd (State.decodeTrap_truncated hp hf),
      fun _ hf => fails hd (State.decodeTrap_truncated hp hf)⟩

end Sys2Proof.Machine
end

section
/-! PROOF. Undefined opcodes, and words decoded through their encodings (30_encoding.md R170; 40_undefined_alu_muldiv.md
R230, R231). -/

namespace Sys2Proof

/-- Bytes that are the encoding of a well-formed instruction decode to it (30_encoding.md R170). -/
theorem decode_of_encode_eq {i : Instr} {bs : List Byte} (h : encode i = bs) (hw : i.wellFormed = true) :
    decode bs = .ok (i, []) := by
  rw [← h, ← List.append_nil (encode i)]
  exact decode_encode hw []

/-- Settles O56: each word is the encoding of its instruction. -/
theorem decodeWords : Obligations.DecodeWords := by
  refine ⟨?_, ?_, ?_, ?_, ?_, ?_, ?_, ?_, ?_, ?_, ?_, ?_, ?_, ?_, ?_, ?_⟩ <;> exact decode_of_encode_eq rfl rfl

/-- The bytes of the undefined opcodes, for every `h` (40_undefined_alu_muldiv.md R230, R231). -/
theorem encode_und (h : BitVec 4) :
    encode (.und000 h) = [0x00, 0x0#4 ++ h] ∧ encode (.undFFF h) = [0xFF, 0xF#4 ++ h] := by
  revert h
  decide

/-- An undefined opcode raises UND (40_undefined_alu_muldiv.md R230, R231). -/
theorem Machine.exec_of_alwaysUndefined {i : Instr} (s : Machine.State) (h : Machine.alwaysUndefined i = true) :
    Machine.exec i s = .next (s.takeException .und) := by
  cases i with
  | und000 | undFFF => rfl
  | _ => cases h

/-- Settles O53: the words are the encodings of the two instructions. -/
theorem undefinedOpcodes : Obligations.UndefinedOpcodes := by
  refine ⟨fun h rest => ?_, fun i s hi => Machine.exec_of_alwaysUndefined s hi⟩
  obtain ⟨low, high⟩ := encode_und h
  have d000 := decode_encode (i := .und000 h) rfl rest
  have dFFF := decode_encode (i := .undFFF h) rfl rest
  rw [low] at d000
  rw [high] at dFFF
  exact ⟨d000, dFFF⟩

end Sys2Proof
end

section
/-! PROOF. Two-operand arithmetic, multiplication and division (40_undefined_alu_muldiv.md sections 2 and 3). -/

namespace Sys2Proof.Machine

/-- Settles O13: each of the five is `alu2` with its own operation and flags. -/
theorem aluTwoOperand : Obligations.AluTwoOperand := by
  intro l f a b s x y t ready
  exact ⟨fun hc => congrArg (finish s) (alu2_of_ready ready wordAdd addFlags f hc),
    fun hc => congrArg (finish s) (alu2_of_ready ready wordSub subFlags f hc),
    fun hc => congrArg (finish s) (alu2_of_ready ready bitAnd (logicOf bitAnd) f hc),
    fun hc => congrArg (finish s) (alu2_of_ready ready bitOr (logicOf bitOr) f hc),
    fun hc => congrArg (finish s) (alu2_of_ready ready bitXor (logicOf bitXor) f hc)⟩

/-! ### The two result registers -/

theorem Size.bits_le (z : Size) : z.bits ≤ 64 := by cases z <;> decide

/-- A remainder of a power of two within the word is held by a word. -/
theorem toNat_ofNat_mod_two_pow {n : Nat} (hn : n ≤ 64) (v : Nat) : (BitVec.ofNat 64 (v % 2 ^ n)).toNat = v % 2 ^ n := by
  rw [BitVec.toNat_ofNat, Nat.mod_eq_of_lt]
  exact (Nat.mod_lt _ (by positivity)).trans_le (Nat.pow_le_pow_right (by decide) hn)

/-- The general registers after the two results are written (40_undefined_alu_muldiv.md R240). -/
theorem State.setPair_r (s : State) (n : Nat) (nf : Bool) (lo hi : Nat) (j : BitVec 4) :
    (s.setPair n nf lo hi).r j =
      if 3 = j then BitVec.ofNat 64 (hi % 2 ^ n) else if 0 = j then BitVec.ofNat 64 (lo % 2 ^ n) else s.r j := by
  rw [← State.setR_r, ← State.setR_r]
  cases nf <;> rfl

/-- `r0` and `r3` receive the two results modulo `2^n` (40_undefined_alu_muldiv.md R240). -/
theorem State.setPair_results (s : State) {n : Nat} (hn : n ≤ 64) (nf : Bool) (lo hi : Nat) :
    ((s.setPair n nf lo hi).r 0).toNat = lo % 2 ^ n ∧ ((s.setPair n nf lo hi).r 3).toNat = hi % 2 ^ n := by
  rw [State.setPair_r, State.setPair_r]
  exact ⟨toNat_ofNat_mod_two_pow hn lo, toNat_ofNat_mod_two_pow hn hi⟩

/-- What the two results leave of the state: `ip` moves past the opcode word, no other register changes, and the flags are
kept or have Z and N of the new `r0` (40_undefined_alu_muldiv.md R240, decision D10). -/
theorem State.setPair_frame (s : State) (n : Nat) (nf : Bool) (lo hi : Nat) :
    let u := s.setPair n nf lo hi
    u = { s with gpr := u.gpr, flags := u.flags, ip := s.ip + 2 } ∧ SameRegistersBut s u [0, 3] ∧
      (if nf then u.flags = s.flags else ∃ c v, u.flags = setCV (setZN s.flags (u.r 0) n) c v) := by
  intro u
  refine ⟨?_, fun j hj => ?_, ?_⟩
  · cases nf <;> rfl
  · obtain ⟨not0, not3⟩ : j ≠ 0 ∧ j ≠ 3 := by simpa using hj
    rw [State.setPair_r, if_neg not3.symm, if_neg not0.symm]
  · cases nf with
    | false => exact ⟨Config.mulDivCarry s.draws, Config.mulDivOverflow s.draws, by rw [State.setPair_r]; rfl⟩
    | true => rfl

/-! ### Multiplication -/

/-- A product of `2n` bits stands in `r0`, its low half, and `r3`, its high half. -/
theorem State.setPair_product (s : State) {n : Nat} (hn : n ≤ 64) (nf : Bool) {p : Nat} (hp : p < 2 ^ (2 * n)) :
    let u := s.setPair n nf p (p / 2 ^ n)
    (u.r 0).toNat < 2 ^ n ∧ (u.r 3).toNat < 2 ^ n ∧ (u.r 0).toNat + 2 ^ n * (u.r 3).toNat = p := by
  intro u
  obtain ⟨lo, hi⟩ := s.setPair_results hn nf p (p / 2 ^ n)
  have high : p / 2 ^ n < 2 ^ n := Nat.div_lt_of_lt_mul (by rwa [← pow_add, ← two_mul])
  rw [Nat.mod_eq_of_lt high] at hi
  rw [lo, hi]
  exact ⟨Nat.mod_lt _ (by positivity), high, Nat.mod_add_div p (2 ^ n)⟩

theorem lowBits_lt (n : Nat) (v : Word) : lowBits n v < 2 ^ n := Nat.mod_lt _ (by positivity)

/-- Settles O15: both products are below `2^(2n)`, the unsigned one as a product of `n`-bit numbers, the signed one as a
remainder. -/
theorem MulDiv.multiply : Obligations.Multiply := by
  intro z f s n x y
  constructor
  · have hp : x * y < 2 ^ (2 * n) := by
      rw [two_mul, pow_add]
      exact Nat.mul_lt_mul'' (lowBits_lt n (s.r 0)) (lowBits_lt n (s.r 3))
    obtain ⟨lo, hi, product⟩ := s.setPair_product (Size.bits_le z) f hp
    exact ⟨_, rfl, lo, hi, product, s.setPair_frame _ _ _ _⟩
  · have residue : 0 ≤ (signedOf n x * signedOf n y) % 2 ^ (2 * n) := Int.emod_nonneg _ (by positivity)
    have hp : ((signedOf n x * signedOf n y) % 2 ^ (2 * n)).toNat < 2 ^ (2 * n) := by
      rw [Int.toNat_lt residue]
      exact_mod_cast Int.emod_lt_of_pos _ (by positivity)
    obtain ⟨lo, hi, product⟩ := s.setPair_product (Size.bits_le z) f hp
    exact ⟨_, rfl, lo, hi, by rw [← Int.toNat_of_nonneg residue, ← product]; push_cast; rfl, s.setPair_frame _ _ _ _⟩

/-! ### Division -/

/-- An `n`-bit number is 0 as a signed one exactly when it is 0. -/
theorem signedOf_eq_zero_iff {n v : Nat} (hv : v < 2 ^ n) : signedOf n v = 0 ↔ v = 0 := by
  have half : 0 < 2 ^ (n - 1) := by positivity
  have hv' : (v : Int) < 2 ^ n := by exact_mod_cast hv
  unfold signedOf
  split <;> omega

/-- The remainder of a division rounding toward zero is smaller in size than the divisor. -/
theorem abs_tmod_lt_abs (x : Int) {d : Int} (hd : d ≠ 0) : |x.tmod d| < |d| := by
  rw [Int.abs_eq_natAbs, Int.abs_eq_natAbs, Int.natAbs_tmod]
  exact_mod_cast Nat.mod_lt _ (Int.natAbs_pos.mpr hd)

/-- The remainder of a division rounding toward zero is 0 or has the sign of the dividend. -/
theorem tmod_eq_zero_or_pos_iff (x d : Int) : x.tmod d = 0 ∨ (0 < x.tmod d ↔ 0 < x) := by
  have sign := Int.sign_tmod x d
  split at sign
  · exact .inl (Int.sign_eq_zero_iff_zero.mp sign)
  · rw [← Int.sign_eq_one_iff_pos, sign, Int.sign_eq_one_iff_pos]
    exact .inr Iff.rfl

/-- A divisor of 0 raises DIV, tested as an unsigned or as a signed number (40_undefined_alu_muldiv.md R242, R244). -/
theorem divide_of_eq_zero {s : State} {n : Nat} (h : lowBits n (s.r 3) = 0) (wide nf : Bool) :
    divide n wide nf s = raise .div ∧ divideSigned n wide nf s = raise .div := by
  have signed : signedOf n (lowBits n (s.r 3)) = 0 := (signedOf_eq_zero_iff (lowBits_lt n _)).mpr h
  simp only [divide, divideSigned, signed]
  rw [h]
  exact ⟨rfl, rfl⟩

/-- A divisor other than 0 leaves quotient and remainder (40_undefined_alu_muldiv.md R242). -/
theorem divide_of_ne_zero {s : State} {n : Nat} (h : lowBits n (s.r 3) ≠ 0) (wide nf : Bool) :
    divide n wide nf s =
      .ok (s.setPair n nf (s.dividend n wide / lowBits n (s.r 3)) (s.dividend n wide % lowBits n (s.r 3))) :=
  Result.bind_ok.mpr ⟨(), require_ok.mpr (bne_iff_ne.mpr h), rfl⟩

/-- A signed divisor other than 0 leaves quotient and remainder, rounded toward zero (40_undefined_alu_muldiv.md R244). -/
theorem divideSigned_of_ne_zero {s : State} {n : Nat} (h : signedOf n (lowBits n (s.r 3)) ≠ 0) (wide nf : Bool) :
    let x := signedOf (if wide then 2 * n else n) (s.dividend n wide)
    let d := signedOf n (lowBits n (s.r 3))
    divideSigned n wide nf s = .ok (s.setPair n nf (x.tdiv d % 2 ^ n).toNat (x.tmod d % 2 ^ n).toNat) :=
  Result.bind_ok.mpr ⟨(), require_ok.mpr (bne_iff_ne.mpr h), rfl⟩

/-- An `n`-bit result computed as an integer modulo `2^n`. -/
theorem cast_toNat_emod_mod (q : Int) (n : Nat) : (((q % 2 ^ n).toNat % 2 ^ n : Nat) : Int) = q % 2 ^ n := by
  push_cast
  rw [Int.toNat_of_nonneg (Int.emod_nonneg _ (by positivity)), Int.emod_emod]

/-- Settles O16: the unsigned division law is that of the natural numbers, the signed one that of the division rounding
toward zero. -/
theorem MulDiv.divide : Obligations.Divide := by
  intro z w f s n d dividend
  refine ⟨fun zero => ?_, fun nonzero => ⟨?_, ?_⟩⟩
  · obtain ⟨unsigned, signed⟩ := divide_of_eq_zero zero w f
    exact ⟨congrArg (finish s) unsigned, congrArg (finish s) signed⟩
  · obtain ⟨lo, hi⟩ := s.setPair_results (Size.bits_le z) f (dividend / d) (dividend % d)
    have remainder : dividend % d < d := Nat.mod_lt _ (Nat.pos_of_ne_zero nonzero)
    rw [Nat.mod_eq_of_lt (remainder.trans (lowBits_lt n (s.r 3)))] at hi
    exact ⟨_, dividend / d, congrArg (finish s) (divide_of_ne_zero nonzero w f),
      (Nat.div_add_mod' dividend d).symm.trans (congrArg _ hi.symm), hi.trans_lt remainder, lo, s.setPair_frame _ _ _ _⟩
  · have signedNonzero : signedOf n d ≠ 0 := mt (signedOf_eq_zero_iff (lowBits_lt n (s.r 3))).mp nonzero
    let x := signedOf (if w then 2 * n else n) dividend
    let q := x.tdiv (signedOf n d)
    let r := x.tmod (signedOf n d)
    obtain ⟨lo, hi⟩ := s.setPair_results (Size.bits_le z) f (q % 2 ^ n).toNat (r % 2 ^ n).toNat
    exact ⟨_, q, r, congrArg (finish s) (divideSigned_of_ne_zero signedNonzero w f), (Int.tdiv_mul_add_tmod x _).symm,
      abs_tmod_lt_abs x signedNonzero, tmod_eq_zero_or_pos_iff x _, lo ▸ cast_toNat_emod_mod q n,
      hi ▸ cast_toNat_emod_mod r n, s.setPair_frame _ _ _ _⟩

end Sys2Proof.Machine
end

section
/-! PROOF. Moves, address computation, no operation and the stack (41_mov_nop_stack.md). -/

namespace Sys2Proof.Machine

/-! ### Moves and addresses -/

/-- `mov` with its checks passed stores the source cut to the destination's width (41_mov_nop_stack.md R261). -/
theorem move_of_ready {s : State} {a b : Operand} {v : Word} {t : Target} (h : s.MoveReady a b v t)
    (hc : s.checkTarget (truncBits (s.place (s.nip2 a b) a).bits v) t = .ok ()) :
    move a b s =
      .ok { s.setTarget (truncBits (s.place (s.nip2 a b) a).bits v) t with
            flags := setZN s.flags (truncBits (s.place (s.nip2 a b) a).bits v) (s.place (s.nip2 a b) a).bits
            ip := s.nip2 a b } := by
  have notImm := State.isImm_of_openTarget h.target
  simp only [move, Result.bind_ok, require_ok, State.writeTarget_ok]
  exact ⟨(), h.classes, (), by simp [notImm], (), by simpa using h.oneReg, (),
    by simpa using ⟨h.notIp, h.notFlags⟩, v, h.source, t, h.target, _, ⟨hc, rfl⟩, rfl⟩

/-- `mov` to a general register stores the operand (41_mov_nop_stack.md R263). -/
theorem moveToGpr_of_read {s : State} {a : Operand} {v : Word} (h : s.checkOperands [a] = .ok ())
    (hv : s.readPlace (s.nip1 a) (s.place (s.nip1 a) a) = .ok v) (r : BitVec 4) :
    moveToGpr r a s =
      .ok { s.setR r v with flags := setZN s.flags v (s.place (s.nip1 a) a).bits, ip := s.nip1 a } := by
  simp only [moveToGpr, Result.bind_ok]
  exact ⟨(), h, v, hv, rfl⟩

/-- `mov` from a general register stores its low bits (41_mov_nop_stack.md R264). -/
theorem moveFromGpr_of_open {s : State} {a : Operand} {t : Target} {r : BitVec 4} (h : s.checkOperands [a] = .ok ())
    (notIp : (s.place (s.nip1 a) a).isRegister 16 = false) (notFlags : (s.place (s.nip1 a) a).isRegister 17 = false)
    (ht : s.openTarget (s.place (s.nip1 a) a) = .ok t)
    (hc : s.checkTarget (truncBits (s.place (s.nip1 a) a).bits (s.r r)) t = .ok ()) :
    moveFromGpr r a s =
      .ok { s.setTarget (truncBits (s.place (s.nip1 a) a).bits (s.r r)) t with
            flags := setZN s.flags (truncBits (s.place (s.nip1 a) a).bits (s.r r)) (s.place (s.nip1 a) a).bits
            ip := s.nip1 a } := by
  have notImm := State.isImm_of_openTarget ht
  simp only [moveFromGpr, Result.bind_ok, require_ok, State.writeTarget_ok]
  exact ⟨(), h, (), by simp [notImm], (), by simpa using ⟨notIp, notFlags⟩, t, ht, _, ⟨hc, rfl⟩, rfl⟩

/-- `lea` stores the address of a memory operand, cut to the size of its register (41_mov_nop_stack.md R262). -/
theorem loadAddress_of_mem {s : State} {b : Operand} {addr : Word} {z z' : Size} {r : BitVec 8}
    (h : s.checkOperands [.reg z r, b] = .ok ()) (hb : s.place (s.nip2 (.reg z r) b) b = .mem addr z')
    (notIp : r ≠ 16) (notFlags : r ≠ 17) (hc : s.writebackCheck r (truncBits z.bits addr) = .ok ()) :
    loadAddress (.reg z r) b s =
      .ok { s.writeReg r (truncBits z.bits addr) with ip := s.nip2 (.reg z r) b } := by
  have place : s.place (s.nip2 (.reg z r) b) (.reg z r) = .reg r z := rfl
  simp only [loadAddress, Result.bind_ok, hb, place, require_ok, State.writeTarget_ok]
  exact ⟨(), h, (), by simpa using ⟨notIp, notFlags⟩, _, ⟨hc, rfl⟩, rfl⟩

/-- `lea` to a general register stores the whole address (41_mov_nop_stack.md R265). -/
theorem loadAddressToGpr_of_mem {s : State} {a : Operand} {addr : Word} {z : Size} (h : s.checkOperands [a] = .ok ())
    (ha : s.place (s.nip1 a) a = .mem addr z) (r : BitVec 4) :
    loadAddressToGpr r a s = .ok { s.setR r addr with ip := s.nip1 a } := by
  simp only [loadAddressToGpr, Result.bind_ok, ha]
  exact ⟨(), h, rfl⟩

/-- Settles O17: each of the five answers where its checks pass. -/
theorem moves : Obligations.Moves :=
  ⟨fun _ _ s _ _ ready hc => congrArg (finish s) (move_of_ready ready hc),
    fun r _ s _ h hv => congrArg (finish s) (moveToGpr_of_read h hv r),
    fun _ _ s _ h notIp notFlags ht hc => congrArg (finish s) (moveFromGpr_of_open h notIp notFlags ht hc),
    fun _ s _ _ _ _ h hb notIp notFlags hc => congrArg (finish s) (loadAddress_of_mem h hb notIp notFlags hc),
    fun r _ s _ _ h ha => congrArg (finish s) (loadAddressToGpr_of_mem h ha r)⟩

/-! ### No operation -/

/-- An instruction that does nothing moves `ip` past its bytes (41_mov_nop_stack.md R269, R270). -/
theorem finish_noOperation (s : State) (len : Nat) :
    finish s (noOperation len s) = .next { s with ip := s.nextIp len } := rfl

/-- Settles O18: the four differ in their length only. -/
theorem Move.noOperation : Obligations.NoOperation := fun _ _ _ s =>
  ⟨finish_noOperation s _, finish_noOperation s _, finish_noOperation s _, finish_noOperation s _⟩

/-! ### The stack -/

/-- Replacing a general register leaves the others. -/
theorem State.sameRegistersBut_setR (s : State) (i : BitVec 4) (v : Word) : SameRegistersBut s (s.setR i v) [i] := by
  intro j hj
  rw [State.setR_r, if_neg (by simpa [eq_comm] using hj)]

/-- The state after a push of `v` to the addresses `pas` (41_mov_nop_stack.md R275). -/
def State.pushedAt (s : State) (pas : List Nat) (v : Word) : State :=
  (s.store pas (leBytes 8 v.toNat)).setR 7 (s.sp - 8)

/-- A push whose 8 bytes may be written. -/
theorem State.push_of_translate {s : State} {pas : List Nat} (h : s.translateRange s.xm .write (s.sp - 8) 8 = .ok pas)
    (v : Word) : s.push v = .ok (s.pushedAt pas v) :=
  State.push_ok.mpr ⟨pas, h, rfl⟩

/-- What a push leaves, once `ip` has moved on: the 8 bytes, `r7`, and everything else as it was. -/
theorem State.pushedAt_frame {s : State} {pas : List Nat} (h : s.translateRange s.xm .write (s.sp - 8) 8 = .ok pas)
    (v nip : Word) :
    let u := (s.pushedAt pas v).advance nip
    StoredAt s u pas (leBytes 8 v.toNat) ∧ u.sp = s.sp - 8 ∧ SameRegistersBut s u [7] ∧
      u.flags = s.flags ∧ u.mode = s.mode ∧ u.codeView = s.codeView ∧ u.ip = nip ∧ StoreFrame s u := by
  have stored : StoredAt s (s.store pas (leBytes 8 v.toNat)) pas (leBytes 8 v.toNat) :=
    s.storedAt_store h (leBytes_length _ _) (by decide)
  have stack : (s.pushedAt pas v).sp = s.sp - 8 := by simp [State.pushedAt]
  exact ⟨stored, stack, s.sameRegistersBut_setR 7 (s.sp - 8), rfl, rfl, rfl, rfl, rfl⟩

/-- `push` of a readable operand (41_mov_nop_stack.md R276). -/
theorem pushOperand_of_read {s : State} {pas : List Nat} {a : Operand} {v : Word}
    (hp : s.translateRange s.xm .write (s.sp - 8) 8 = .ok pas) (h : s.checkOperands [a] = .ok ())
    (hv : s.readPlace (s.nip1 a) (s.place (s.nip1 a) a) = .ok v) :
    pushOperand a s = .ok ((s.pushedAt pas v).advance (s.nip1 a)) := by
  simp only [pushOperand, Result.bind_ok]
  exact ⟨(), h, v, hv, _, State.push_of_translate hp v, rfl⟩

/-- `push` of a general register (41_mov_nop_stack.md R278). -/
theorem pushGprCore_of_translate {s : State} {pas : List Nat} (hp : s.translateRange s.xm .write (s.sp - 8) 8 = .ok pas)
    (r : BitVec 4) : pushGprCore r s = .ok ((s.pushedAt pas (s.r r)).advance (s.ip + 2)) :=
  Result.bind_ok.mpr ⟨_, State.push_of_translate hp (s.r r), rfl⟩

/-- Settles O19: both forms push the value and move `ip`, and a push leaves what `State.pushedAt_frame` says. -/
theorem push : Obligations.Push := fun s _ hp =>
  ⟨fun a v h hv => ⟨_, congrArg (finish s) (pushOperand_of_read hp h hv), State.pushedAt_frame hp v (s.nip1 a)⟩,
    fun r => ⟨_, congrArg (finish s) (pushGprCore_of_translate hp r), State.pushedAt_frame hp (s.r r) (s.ip + 2)⟩⟩

/-- `pop` into a writable operand of 8 bytes (41_mov_nop_stack.md R277, decision D24). -/
theorem popOperand_of_open {s : State} {pas : List Nat} {a : Operand} {t : Target}
    (hp : s.translateRange s.xm .read s.sp 8 = .ok pas) (h : s.checkOperands [a] = .ok ())
    (size : (s.place (s.nip1 a) a).bits = 64) (notIp : (s.place (s.nip1 a) a).isRegister 16 = false)
    (ht : s.openTarget (s.place (s.nip1 a) a) = .ok t) (hc : s.checkTarget (s.loadWord pas) t = .ok ()) :
    popOperand a s =
      .ok { (s.setTarget (s.loadWord pas) t).setR 7
              (if (s.place (s.nip1 a) a).isRegister 7 then s.poppedSp (s.loadWord pas) else s.sp + 8) with
            ip := s.nip1 a } := by
  have notImm := State.isImm_of_openTarget ht
  simp only [popOperand, Result.bind_ok, require_ok, State.validate_ok, State.writeTarget_ok]
  exact ⟨(), h, (), by simp [notImm, size], (), by simpa using notIp, pas, hp, t, ht, _, ⟨hc, rfl⟩, rfl⟩

/-- `pop` into a general register (41_mov_nop_stack.md R279). -/
theorem popGprCore_of_translate {s : State} {pas : List Nat} (hp : s.translateRange s.xm .read s.sp 8 = .ok pas)
    (r : BitVec 4) :
    popGprCore r s =
      .ok { (s.setR r (s.loadWord pas)).setR 7 (if r = 7 then s.poppedSp (s.loadWord pas) else s.sp + 8) with
            ip := s.ip + 2 } :=
  Result.bind_ok.mpr ⟨pas, State.validate_ok.mpr hp, rfl⟩

/-- Settles O20: where the destination is `r7`, the value it is left with is `State.poppedSp`. -/
theorem popFromStack : Obligations.PopFromStack := fun s _ hp =>
  ⟨fun _ _ h size notIp ht hc => congrArg (finish s) (popOperand_of_open hp h size notIp ht hc),
    fun r => congrArg (finish s) (popGprCore_of_translate hp r)⟩

end Sys2Proof.Machine
end

section
/-! PROOF. Register images in memory: storing them, loading them, and their reserved slots (42_bulk_registers.md;
48_supervisor.md R466). -/

namespace Sys2Proof.Machine

/-! ### The image that is stored -/

/-- Slots 0 to 15 hold the general registers (42_bulk_registers.md R295). -/
theorem State.slot_of_lt_sixteen (s : State) (nip : Word) {i : Nat} (h : i < 16) : s.slot nip i = s.gpr[i] := by
  have number : (BitVec.ofNat 8 i).toNat = i := Nat.mod_eq_of_lt (by omega)
  simp only [State.slot, State.readReg, number, h, dite_true]

/-- Slots 19 to 127 have no register and hold 0 (42_bulk_registers.md R295). -/
theorem State.slot_of_unused (s : State) (nip : Word) {i : Nat} (h : 19 ≤ i) (h' : i < 128) : s.slot nip i = 0 := by
  have number : (BitVec.ofNat 8 i).toNat = i := Nat.mod_eq_of_lt (by omega)
  have notMsr : isMsr (BitVec.ofNat 8 i) = false := by simp [isMsr, number, show ¬148 ≤ i by omega]
  simp only [State.slot, State.readReg, number, notMsr, show ¬i < 16 by omega, dite_false]
  split <;> first | omega | rfl

/-- The image of the general registers (42_bulk_registers.md R291). -/
theorem State.image_sixteen (s : State) (nip : Word) : s.image nip 16 = s.gpr.toList := by
  refine List.ext_getElem (by simp [State.image]) fun i h _ => ?_
  have lt : i < 16 := by simpa [State.image] using h
  simp [State.image, s.slot_of_lt_sixteen nip lt]

/-- A longer image is a shorter one and the slots after it. -/
theorem State.image_add (s : State) (nip : Word) (m n : Nat) :
    s.image nip (m + n) = s.image nip m ++ (List.range n).map fun i => s.slot nip (m + i) := by
  simp only [State.image, List.range_add, List.map_append, List.map_map, Function.comp_def]

/-- The image of the program registers: the general registers, `ip`, `flags`, `mode` and 109 zeros
(42_bulk_registers.md R295). -/
theorem State.image_programRegisters (s : State) (nip : Word) :
    s.image nip 128 = s.gpr.toList ++ [nip, s.flags, s.mode] ++ List.replicate 109 0 := by
  have used : s.image nip 19 = s.image nip 16 ++ [nip, s.flags, s.mode] := rfl
  have unused : (List.range 109).map (fun i => s.slot nip (19 + i)) = List.replicate 109 0 := by
    refine List.eq_replicate_iff.mpr ⟨by simp, fun v hv => ?_⟩
    obtain ⟨i, hi, rfl⟩ := List.mem_map.mp hv
    have := List.mem_range.mp hi
    exact s.slot_of_unused nip (by omega) (by omega)
  calc s.image nip 128
      = s.image nip 19 ++ (List.range 109).map (fun i => s.slot nip (19 + i)) := s.image_add nip 19 109
    _ = _ := by rw [used, unused, s.image_sixteen]

/-- Each word of an image takes 8 bytes (42_bulk_registers.md R290). -/
theorem wordsBytes_length (ws : List Word) : (wordsBytes ws).length = 8 * ws.length := by
  induction ws with
  | nil => rfl
  | cons w ws ih =>
    have : wordsBytes (w :: ws) = leBytes 8 w.toNat ++ wordsBytes ws := rfl
    rw [this, List.length_append, leBytes_length, ih, List.length_cons, Nat.mul_succ, Nat.add_comm]

/-- The bytes of the first `n` slots. -/
theorem State.image_bytes_length (s : State) (nip : Word) (n : Nat) : (wordsBytes (s.image nip n)).length = 8 * n := by
  simp [wordsBytes_length, State.image]

/-! ### Storing an image -/

/-- `t` is `s` after stores of `bs` to the addresses `pas`, and nothing else. -/
structure StoredOnly (s t : State) (pas : List Nat) (bs : List Byte) : Prop where
  stored : StoredAt s t pas bs
  rest : t = { s with mem := t.mem, recent := t.recent, ptHistory := t.ptHistory }

/-- A store in blocks changes memory and the records of its stores only. -/
theorem State.storeBlocks_rest (s : State) (n : Nat) (pas : List Nat) (bs : List Byte) :
    s.storeBlocks n pas bs =
      { s with
        mem := (s.storeBlocks n pas bs).mem
        recent := (s.storeBlocks n pas bs).recent
        ptHistory := (s.storeBlocks n pas bs).ptHistory } := by
  induction n generalizing s pas bs with
  | zero => rfl
  | succ n ih => exact ih _ _ _

section
variable {s t : State} {xm : Bool} {kind : Access} {addr : Word} {pas : List Nat} {bs : List Byte} {n : Nat}

/-- One store to a translated range of at most a page. -/
theorem State.storedOnly_store (h : s.translateRange xm kind addr n = .ok pas) (hl : bs.length = n) (hn : n ≤ 4096) :
    StoredOnly s (s.store pas bs) pas bs :=
  ⟨s.storedAt_store h hl hn, rfl⟩

/-- Stores in `k` blocks to a translated range of at most a page (42_bulk_registers.md R290). -/
theorem State.storedOnly_storeBlocks (h : s.translateRange xm kind addr n = .ok pas) (hl : bs.length = n)
    (hn : n ≤ 4096) {k : Nat} (hk : n ≤ 128 * k) : StoredOnly s (s.storeBlocks k pas bs) pas bs :=
  ⟨⟨s.bytesAt_storeBlocks k pas bs (State.translateRange_nodup h hn) ((State.translateRange_length h).trans hl.symm)
      (hl ▸ hk), s.get_storeBlocks_of_notMem k pas bs⟩, s.storeBlocks_rest k pas bs⟩

/-- The registers after stores. -/
theorem StoredOnly.registers (h : StoredOnly s t pas bs) :
    t.gpr = s.gpr ∧ t.flags = s.flags ∧ t.mode = s.mode ∧ t.codeView = s.codeView := by
  rw [h.rest]
  exact ⟨rfl, rfl, rfl, rfl⟩

/-- What an instruction leaves that stores and moves `ip`. -/
theorem StoredOnly.advance (h : StoredOnly s t pas bs) (nip : Word) :
    let u := t.advance nip
    StoredAt s u pas bs ∧ u.gpr = s.gpr ∧ u.ip = nip ∧ u.flags = s.flags ∧ u.mode = s.mode ∧
      u.codeView = s.codeView ∧ StoreFrame s u := by
  obtain ⟨gpr, flags, mode, codeView⟩ := h.registers
  have frame : StoreFrame s (t.advance nip) := by rw [h.rest]; rfl
  exact ⟨h.stored, gpr, rfl, flags, mode, codeView, frame⟩

/-- What an instruction leaves that stores, moves the stack pointer and moves `ip`. -/
theorem StoredOnly.push (h : StoredOnly s t pas bs) (sp nip : Word) :
    let u := (t.setR 7 sp).advance nip
    StoredAt s u pas bs ∧ u.sp = sp ∧ SameRegistersBut s u [7] ∧ u.ip = nip ∧ u.flags = s.flags ∧ u.mode = s.mode ∧
      u.codeView = s.codeView ∧ StoreFrame s u := by
  obtain ⟨gpr, flags, mode, codeView⟩ := h.registers
  have stack : (t.setR 7 sp).sp = sp := by simp
  have others : SameRegistersBut s (t.setR 7 sp) [7] := fun j hj =>
    (t.sameRegistersBut_setR 7 sp j hj).trans (by simp only [State.r, gpr])
  have frame : StoreFrame s ((t.setR 7 sp).advance nip) := by rw [h.rest]; rfl
  exact ⟨h.stored, stack, others, rfl, flags, mode, codeView, frame⟩

end

section
variable {s : State} {a : Operand} {addr : Word} {z : Size} {pas : List Nat}

/-- Where the operand is memory whose `n` bytes may be accessed, an instruction on an image there comes to its own work
at the translated addresses (42_bulk_registers.md R290). -/
theorem State.image_operand (h : s.checkOperands [a] = .ok ()) (ha : s.place (s.nip1 a) a = .mem addr z) {kind : Access}
    {n : Nat} (hp : s.translateRange s.xm kind addr n = .ok pas) (work : List Nat → Result) :
    (do s.checkOperands [a]
        let addr ← memoryAddress (s.place (s.nip1 a) a)
        let pas ← s.validate kind addr n
        work pas) = work pas := by
  rw [h, ha]
  exact congrArg (· >>= work) (State.validate_ok.mpr hp)

/-- `stogpr` stores the general registers (42_bulk_registers.md R291). -/
theorem storeGprs_of_translate (h : s.checkOperands [a] = .ok ()) (ha : s.place (s.nip1 a) a = .mem addr z)
    (hp : s.translateRange s.xm .write addr 128 = .ok pas) :
    storeGprs a s = .ok ((s.store pas (wordsBytes (s.image (s.nip1 a) 16))).advance (s.nip1 a)) :=
  State.image_operand h ha hp _

/-- `stoar` stores the program registers (42_bulk_registers.md R292). -/
theorem storeProgramRegisters_of_translate (h : s.checkOperands [a] = .ok ()) (ha : s.place (s.nip1 a) a = .mem addr z)
    (hp : s.translateRange s.xm .write addr 1024 = .ok pas) :
    storeProgramRegisters a s =
      .ok ((s.storeBlocks 8 pas (wordsBytes (s.image (s.nip1 a) 128))).advance (s.nip1 a)) :=
  State.image_operand h ha hp _

/-- `pushgpr` stores the general registers below the stack pointer (42_bulk_registers.md R297). -/
theorem pushGprs_of_translate (hp : s.translateRange s.xm .write (s.sp - 128) 128 = .ok pas) :
    pushGprs s =
      .ok (((s.store pas (wordsBytes (s.image (s.ip + 2) 16))).setR 7 (s.sp - 128)).advance (s.ip + 2)) :=
  Result.bind_ok.mpr ⟨pas, State.validate_ok.mpr hp, rfl⟩

/-- `pushar` stores the program registers below the stack pointer (42_bulk_registers.md R298). -/
theorem pushProgramRegisters_of_translate (hp : s.translateRange s.xm .write (s.sp - 1024) 1024 = .ok pas) :
    pushProgramRegisters s =
      .ok (((s.storeBlocks 8 pas (wordsBytes (s.image (s.ip + 2) 128))).setR 7 (s.sp - 1024)).advance (s.ip + 2)) :=
  Result.bind_ok.mpr ⟨pas, State.validate_ok.mpr hp, rfl⟩

end

/-- One store of the image of the general registers (42_bulk_registers.md R291). -/
theorem State.storedOnly_generalImage (s : State) (nip : Word) {addr : Word} {pas : List Nat}
    (hp : s.translateRange s.xm .write addr 128 = .ok pas) :
    StoredOnly s (s.store pas (wordsBytes (s.image nip 16))) pas (wordsBytes s.gpr.toList) := by
  rw [← s.image_sixteen nip]
  exact State.storedOnly_store hp (s.image_bytes_length nip 16) (by decide)

/-- The eight stores of the image of the program registers (42_bulk_registers.md R292). -/
theorem State.storedOnly_programImage (s : State) (nip : Word) {addr : Word} {pas : List Nat}
    (hp : s.translateRange s.xm .write addr 1024 = .ok pas) :
    StoredOnly s (s.storeBlocks 8 pas (wordsBytes (s.image nip 128))) pas
      (wordsBytes (s.gpr.toList ++ [nip, s.flags, s.mode] ++ List.replicate 109 0)) := by
  rw [← s.image_programRegisters nip]
  exact State.storedOnly_storeBlocks hp (s.image_bytes_length nip 128) (by decide) (by decide)

/-- Settles O21: each form stores its image and nothing else, and then moves `ip` and, on the stack, `r7`. -/
theorem storeRegisters : Obligations.StoreRegisters := by
  refine fun s => ⟨fun a _ _ _ h ha => ⟨fun hp => ?_, fun hp => ?_⟩, fun _ hp => ?_, fun _ hp => ?_⟩
  · exact ⟨_, congrArg (finish s) (storeGprs_of_translate h ha hp), (s.storedOnly_generalImage _ hp).advance _⟩
  · exact ⟨_, congrArg (finish s) (storeProgramRegisters_of_translate h ha hp),
      (s.storedOnly_programImage _ hp).advance _⟩
  · exact ⟨_, congrArg (finish s) (pushGprs_of_translate hp), (s.storedOnly_generalImage _ hp).push _ _⟩
  · exact ⟨_, congrArg (finish s) (pushProgramRegisters_of_translate hp), (s.storedOnly_programImage _ hp).push _ _⟩

/-! ### Loading an image -/

/-- The general registers loaded from an image are its slots (42_bulk_registers.md R293). -/
theorem State.loadGprs_r (s : State) (pas : List Nat) (j : BitVec 4) :
    (s.loadGprs pas).r j = s.loadSlot pas j.toNat := by
  simp [State.loadGprs, State.r]

/-- What loading the general registers leaves, once `ip` has moved on (42_bulk_registers.md R293, R299). -/
theorem State.loadGprs_frame (s : State) (pas : List Nat) (nip : Word) :
    let u := (s.loadGprs pas).advance nip
    (∀ j, u.r j = s.loadSlot pas j.toNat) ∧ u = { s with gpr := u.gpr, ip := nip } :=
  ⟨s.loadGprs_r pas, by simp only [State.advance, State.loadGprs]⟩

/-- Outside program mode a slot 18 that is a legal mode is loaded as it is (10_state.md R42). -/
theorem State.restoreMode_legal {s : State} {v : Word} (hx : s.xm = false) (legal : v = 0 ∨ v = 3#64 <<< 32) :
    s.restoreMode v = v := by
  simp only [State.restoreMode, hx, Bool.false_eq_true, if_false, s.loadedMode_legal v legal]

/-- The state with the program registers other than `ip` loaded from an image (42_bulk_registers.md R294). -/
def State.withProgramRegisters (s : State) (pas : List Nat) : State :=
  { s with
    gpr := (s.loadGprs pas).gpr
    flags := (s.writeFlags (s.loadSlot pas 17)).flags
    mode := s.restoreMode (s.loadSlot pas 18) }

section
variable (s : State) (pas : List Nat)

@[simp] theorem State.withProgramRegisters_r (j : BitVec 4) :
    (s.withProgramRegisters pas).r j = s.loadSlot pas j.toNat := by
  rw [← s.loadGprs_r pas]
  simp only [State.withProgramRegisters, State.r]

@[simp] theorem State.withProgramRegisters_flags :
    (s.withProgramRegisters pas).flags = (s.writeFlags (s.loadSlot pas 17)).flags := by
  simp only [State.withProgramRegisters]

@[simp] theorem State.withProgramRegisters_mode :
    (s.withProgramRegisters pas).mode = s.restoreMode (s.loadSlot pas 18) := by
  simp only [State.withProgramRegisters]

end

/-- Program registers load where no reserved slot holds a value (42_bulk_registers.md R296). -/
theorem State.loadProgramRegisters_of_zero {s : State} {pas : List Nat}
    (zero : ∀ i, 19 ≤ i → i < 128 → s.loadSlot pas i = 0) :
    s.loadProgramRegisters pas = .ok (s.withProgramRegisters pas) := by
  have all : ((List.range 109).all fun i => s.loadSlot pas (19 + i) == 0) = true :=
    List.all_eq_true.mpr fun i hi => beq_iff_eq.mpr (zero _ (by omega) (by have := List.mem_range.mp hi; omega))
  simp only [State.loadProgramRegisters, Result.bind_ok]
  refine ⟨(), require_ok.mpr all, ?_⟩
  simp only [State.withProgramRegisters, State.writeFlags, State.loadGprs_xm]
  simp only [State.loadGprs]

/-- What loading the program registers leaves, once `ip` has moved on (42_bulk_registers.md R294; 10_state.md R31,
R42). -/
theorem State.withProgramRegisters_frame (s : State) (pas : List Nat) (nip : Word) :
    let u := (s.withProgramRegisters pas).advance nip
    u = { s with gpr := u.gpr, flags := u.flags, mode := u.mode, ip := nip } ∧
      (∀ j, u.r j = s.loadSlot pas j.toNat) ∧
      (∀ i, i < 64 → u.flags.getLsbD i =
        if i < 5 ∧ ¬(s.xm = true ∧ s.flprotect.getLsbD i = true) then (s.loadSlot pas 17).getLsbD i
        else s.flags.getLsbD i) ∧
      (s.xm = false → s.loadSlot pas 18 = 0 ∨ s.loadSlot pas 18 = 3#64 <<< 32 → u.mode = s.loadSlot pas 18) ∧
      (s.xm = true → u.mode >>> 32 = s.mode >>> 32) := by
  intro u
  have rest : u = { s with gpr := u.gpr, flags := u.flags, mode := u.mode, ip := nip } := by
    simp only [u, State.advance, State.withProgramRegisters]
  have flags : u.flags = (s.writeFlags (s.loadSlot pas 17)).flags := s.withProgramRegisters_flags pas
  have mode : u.mode = s.restoreMode (s.loadSlot pas 18) := s.withProgramRegisters_mode pas
  rw [flags, mode]
  exact ⟨rest, s.withProgramRegisters_r pas, fun _ hi => s.getLsbD_writeFlags _ hi, State.restoreMode_legal,
    s.restoreMode_upper _⟩

section
variable {s : State} {a : Operand} {addr : Word} {z : Size} {pas : List Nat}

/-- `rstogpr` loads the general registers (42_bulk_registers.md R293). -/
theorem restoreGprs_of_translate (h : s.checkOperands [a] = .ok ()) (ha : s.place (s.nip1 a) a = .mem addr z)
    (hp : s.translateRange s.xm .read addr 128 = .ok pas) :
    restoreGprs a s = .ok ((s.loadGprs pas).advance (s.nip1 a)) :=
  State.image_operand h ha hp _

/-- `popgpr` loads the general registers (42_bulk_registers.md R299). -/
theorem popGprs_of_translate (hp : s.translateRange s.xm .read s.sp 128 = .ok pas) :
    popGprs s = .ok ((s.loadGprs pas).advance (s.ip + 2)) :=
  Result.bind_ok.mpr ⟨pas, State.validate_ok.mpr hp, rfl⟩

/-- `rstoar` loads the program registers and moves `ip` (42_bulk_registers.md R294). -/
theorem restoreProgramRegisters_of_translate (h : s.checkOperands [a] = .ok ())
    (ha : s.place (s.nip1 a) a = .mem addr z) (hp : s.translateRange s.xm .read addr 1024 = .ok pas) :
    restoreProgramRegisters a s = (s.loadProgramRegisters pas >>= fun t => .ok (t.advance (s.nip1 a))) :=
  State.image_operand h ha hp _

/-- `popar` loads the program registers and moves `ip` (42_bulk_registers.md R300). -/
theorem popProgramRegisters_of_translate (hp : s.translateRange s.xm .read s.sp 1024 = .ok pas) :
    popProgramRegisters s = (s.loadProgramRegisters pas >>= fun t => .ok (t.advance (s.ip + 2))) :=
  congrArg (· >>= fun pas => s.loadProgramRegisters pas >>= fun t => .ok (t.advance (s.ip + 2)))
    (State.validate_ok.mpr hp)

end

/-- Settles O22: each form loads the slots at the translated addresses and moves `ip`. -/
theorem restoreRegisters : Obligations.RestoreRegisters := by
  refine ⟨fun s pas => ⟨fun a _ _ h ha hp => ?_, fun hp => ?_⟩,
    fun s pas zero => ⟨fun a _ _ h ha hp => ?_, fun hp => ?_⟩⟩
  · exact ⟨_, congrArg (finish s) (restoreGprs_of_translate h ha hp), s.loadGprs_frame pas _⟩
  · exact ⟨_, congrArg (finish s) (popGprs_of_translate hp), s.loadGprs_frame pas _⟩
  · have loads := restoreProgramRegisters_of_translate h ha hp
    rw [State.loadProgramRegisters_of_zero zero] at loads
    exact ⟨_, congrArg (finish s) loads, s.withProgramRegisters_frame pas _⟩
  · have loads := popProgramRegisters_of_translate hp
    rw [State.loadProgramRegisters_of_zero zero] at loads
    exact ⟨_, congrArg (finish s) loads, s.withProgramRegisters_frame pas _⟩

/-! ### Reserved slots -/

/-- A list of slots one of which is not 0 fails the check of reserved slots. -/
theorem State.require_slots_zero {s : State} {pas slots : List Nat} {k : Nat} (hk : k ∈ slots)
    (h : s.loadSlot pas k ≠ 0) (e : Exc) : require (slots.all fun i => s.loadSlot pas i == 0) e = raise e := by
  have some_nonzero : (slots.all fun i => s.loadSlot pas i == 0) = false :=
    List.all_eq_false.mpr ⟨k, hk, by simpa using h⟩
  rw [some_nonzero]; rfl

/-- Program registers do not load where a reserved slot holds a value (42_bulk_registers.md R296). -/
theorem State.loadProgramRegisters_of_ne_zero {s : State} {pas : List Nat} {k : Nat} (h : s.loadSlot pas k ≠ 0)
    (low : 19 ≤ k) (high : k < 128) : s.loadProgramRegisters pas = raise .prot := by
  have slots : ((List.range 109).all fun i => s.loadSlot pas (19 + i) == 0) =
      ((List.range' 19 109).all fun i => s.loadSlot pas i == 0) := by
    rw [List.range'_eq_map_range, List.all_map]; rfl
  have reserved : k ∈ List.range' 19 109 := List.mem_range'_1.mpr (by omega)
  rw [State.loadProgramRegisters, slots, State.require_slots_zero reserved h]
  rfl

/-- The slots of a full image that `rstregf` requires to be 0 (48_supervisor.md R466). -/
theorem mem_reservedSlots {k : Nat} (h : (19 ≤ k ∧ k < 128) ∨ k = 146 ∨ k = 147 ∨ (155 ≤ k ∧ k < 256)) :
    k ∈ reservedSlots := by
  have lt : k < 256 := by omega
  have number : (BitVec.ofNat 8 k).toNat = k := Nat.mod_eq_of_lt lt
  have reserved : regClass (BitVec.ofNat 8 k) = .reserved := by
    simp only [regClass, number]
    repeat rw [if_neg (by omega)]
  exact List.mem_filter.mpr ⟨List.mem_range.mpr lt, beq_iff_eq.mpr reserved⟩

/-- `rstregf` of an image with a reserved slot that is not 0, whatever its control slots hold (48_supervisor.md R466,
decision D39). -/
theorem restoreRegisterFile_of_reserved {s : State} {a : Operand} {addr : Word} {z : Size} {pas : List Nat} {k : Nat}
    (hx : s.xm = false) (h : s.checkOperands [a] = .ok ()) (ha : s.place (s.nip1 a) a = .mem addr z)
    (hp : s.translateRange s.xm .read addr 2048 = .ok pas) (hk : k ∈ reservedSlots) (nonzero : s.loadSlot pas k ≠ 0) :
    restoreRegisterFile a s = raise .prot := by
  have supervisor : s.requireSupervisor = .ok () := by simp [State.requireSupervisor, hx]
  simp only [restoreRegisterFile, supervisor]
  refine (State.image_operand h ha hp _).trans ?_
  rw [State.require_slots_zero hk nonzero]
  rfl

/-- Settles O23: the check of the reserved slots fails before any register is loaded. -/
theorem reservedSlotsRefused : Obligations.ReservedSlotsRefused := by
  intro s pas k nonzero
  refine ⟨fun low high => ⟨fun a _ _ h ha hp => ?_, fun hp => ?_⟩, fun reserved hx a _ _ h ha hp => ?_⟩
  · have loads := restoreProgramRegisters_of_translate h ha hp
    rw [State.loadProgramRegisters_of_ne_zero nonzero low high] at loads
    exact congrArg (finish s) loads
  · have loads := popProgramRegisters_of_translate hp
    rw [State.loadProgramRegisters_of_ne_zero nonzero low high] at loads
    exact congrArg (finish s) loads
  · exact congrArg (finish s) (restoreRegisterFile_of_reserved hx h ha hp (mem_reservedSlots reserved) nonzero)

end Sys2Proof.Machine
end

section
/-! PROOF. The arithmetic of the converting moves, shifts, rotates and unary operations: each function of the model is the
formula its rule gives (43_convert_shift_unary.md sections 1 to 4). -/

namespace Sys2Proof.Machine

/-! ### Sign extension and byte order -/

theorem signFit_of_le {ns nd : Nat} (h : nd ≤ ns) (v : Word) : signFit ns nd v = truncBits nd v := if_pos h

theorem signFit_lt (ns nd : Nat) (v : Word) : (signFit ns nd v).toNat < 2 ^ nd := by
  unfold signFit
  split
  · exact truncBits_lt nd v
  · split <;> exact truncBits_lt nd _

/-- A wider destination receives a value without its sign bit as it is, and otherwise with every higher bit set
(43_convert_shift_unary.md R311). -/
theorem toNat_signFit_of_lt {ns nd : Nat} (h : ns < nd) (h1 : 1 ≤ ns) (h64 : nd ≤ 64) {v : Word} (hv : v.toNat < 2 ^ ns) :
    (signFit ns nd v).toNat = if 2 ^ (ns - 1) ≤ v.toNat then v.toNat + (2 ^ nd - 2 ^ ns) else v.toNat := by
  have narrow : 2 ^ ns < 2 ^ nd := Nat.pow_lt_pow_right (by decide) h
  have word : 2 ^ nd ≤ 2 ^ 64 := Nat.pow_le_pow_right (by decide) h64
  have above : 0 < 2 ^ ns := by positivity
  simp only [signFit, if_neg (not_le.mpr h), getLsbD_top ns h1 v hv, decide_eq_true_eq]
  split
  · rw [toNat_truncBits_add h64, BitVec.toNat_ofNat, Nat.mod_eq_of_lt (a := 2 ^ nd - 2 ^ ns) (by omega),
      Nat.mod_eq_of_lt (by omega)]
  · rw [toNat_truncBits, Nat.mod_eq_of_lt (by omega)]

/-- A wider destination receives the same signed number (43_convert_shift_unary.md R311). -/
theorem signedOf_signFit {ns nd : Nat} (h : ns < nd) (h1 : 1 ≤ ns) (h64 : nd ≤ 64) {v : Word} (hv : v.toNat < 2 ^ ns) :
    signedOf nd (signFit ns nd v).toNat = signedOf ns v.toNat := by
  rw [toNat_signFit_of_lt h h1 h64 hv]
  obtain ⟨m, rfl⟩ := Nat.exists_eq_add_of_le' h1
  obtain ⟨k, rfl⟩ := Nat.exists_eq_add_of_le' (h1.trans h.le)
  have halves : 2 ^ (m + 1) ≤ 2 ^ k := Nat.pow_le_pow_right (by decide) (by omega)
  rw [signedOf_succ, signedOf_succ, Nat.add_sub_cancel]
  rw [pow_succ'] at hv halves
  rw [pow_succ', pow_succ']
  generalize 2 ^ m = p at *
  generalize 2 ^ k = q at *
  unfold signedHalf
  split_ifs <;> omega

theorem leBytes_succ (n v : Nat) : leBytes (n + 1) v = BitVec.ofNat 8 v :: leBytes n (v / 256) := by
  have shift : ∀ i, v >>> (8 * (i + 1)) = (v / 256) >>> (8 * i) := fun i => by
    rw [mul_add, add_comm, Nat.shiftRight_add, Nat.shiftRight_eq_div_pow v]
  simp only [leBytes, List.range_succ_eq_map, List.map_cons, List.map_map, Function.comp_def, Nat.succ_eq_add_one, shift]
  rfl

/-- The bytes of the value that bytes make. -/
theorem leBytes_leValue (bs : List Byte) : leBytes bs.length (leValue bs) = bs := by
  induction bs with
  | nil => rfl
  | cons b bs ih =>
    have low : BitVec.ofNat 8 (b.toNat + 256 * leValue bs) = b := BitVec.eq_of_toNat_eq (by
      have := b.isLt
      rw [BitVec.toNat_ofNat]
      omega)
    have high : (b.toNat + 256 * leValue bs) / 256 = leValue bs := by have := b.isLt; omega
    rw [List.length_cons, leBytes_succ, leValue, low, high, ih]

/-- The bytes of a value with its low bytes reversed, which fits them (43_convert_shift_unary.md R312). -/
theorem byteReverse_bytes {n : Nat} (hn : n ≤ 8) (v : Word) :
    (byteReverse n v).toNat < 2 ^ (8 * n) ∧ leBytes n (byteReverse n v).toNat = (leBytes n v.toNat).reverse := by
  have length : (leBytes n v.toNat).reverse.length = n := by simp
  have fits := leValue_lt (leBytes n v.toNat).reverse
  have bytes := leBytes_leValue (leBytes n v.toNat).reverse
  rw [length] at fits bytes
  have value : (byteReverse n v).toNat = leValue (leBytes n v.toNat).reverse := by
    rw [byteReverse, BitVec.toNat_ofNat]
    exact Nat.mod_eq_of_lt (fits.trans_le (Nat.pow_le_pow_right (by decide) (by omega)))
  rw [value]
  exact ⟨fits, bytes⟩

/-! ### Shifts and rotates -/

/-- A multiple of `2^i` and a number below it have no bit in common. -/
theorem add_eq_or_of_dvd {i x b : Nat} (hx : 2 ^ i ∣ x) (hb : b < 2 ^ i) : x + b = x ||| b := by
  obtain ⟨c, rfl⟩ := hx
  exact Nat.two_pow_add_eq_or_of_lt hb c

theorem two_pow_dvd_mul_mod {q n : Nat} (h : q ≤ n) (a : Nat) : 2 ^ q ∣ a * 2 ^ q % 2 ^ n :=
  (Nat.dvd_mod_iff (pow_dvd_pow 2 h)).mpr (Dvd.intro_left a rfl)

/-- An `n`-bit number without its `q` low bits. -/
theorem div_two_pow_lt {a q n : Nat} (h : q ≤ n) (ha : a < 2 ^ n) : a / 2 ^ q < 2 ^ (n - q) :=
  Nat.div_lt_of_lt_mul (by rwa [← pow_add, Nat.add_sub_cancel' h])

/-- A negative residue that one addition of the modulus makes nonnegative. -/
theorem sub_emod_of_lt {d m p : Nat} (h : d < m) (hp : m ≤ p) : ((d : Int) - m) % p = ((d + (p - m) : Nat) : Int) := by
  rw [← Int.add_emod_right, Int.emod_eq_of_lt] <;> omega

/-- The rule of `arsh`: the signed value divided, rounding down (43_convert_shift_unary.md R316). -/
theorem arshBy_eq {x : Word} {q n : Nat} (h1 : 1 ≤ n) (hx : x.toNat < 2 ^ n) (hq : q ≤ n) (c : Bool) :
    arshBy x.toNat q n c =
      (((signedOf n x.toNat / 2 ^ q) % 2 ^ n).toNat, decide (1 ≤ q) && x.toNat.testBit (q - 1)) := by
  have quotient : x.toNat / 2 ^ q < 2 ^ (n - q) := div_two_pow_lt hq hx
  have bound : 2 ^ (n - q) ≤ 2 ^ n := Nat.pow_le_pow_right (by decide) (Nat.sub_le n q)
  have top : x.toNat.testBit (n - 1) = decide (2 ^ (n - 1) ≤ x.toNat) := getLsbD_top n h1 x hx
  refine Prod.ext ?_ rfl
  simp only [arshBy, signedOf, top, decide_eq_true_eq]
  split
  · have floor : ((x.toNat : Int) - 2 ^ n) / 2 ^ q = ((x.toNat / 2 ^ q : Nat) : Int) - (2 ^ (n - q) : Nat) := by
      have factor : (2 : Int) ^ n = 2 ^ (n - q) * 2 ^ q := by rw [← pow_add, Nat.sub_add_cancel hq]
      rw [factor, Int.sub_mul_ediv_right _ _ (by positivity)]
      push_cast
      rfl
    have modulus : (2 : Int) ^ n = (2 ^ n : Nat) := by push_cast; rfl
    rw [floor, modulus, sub_emod_of_lt quotient bound, Int.toNat_natCast]
  · have lt : x.toNat / 2 ^ q < 2 ^ n := quotient.trans_le bound
    norm_cast
    rw [Nat.mod_eq_of_lt lt]
    rfl

/-- The rule of `lshc` (43_convert_shift_unary.md R317). -/
theorem lshcBy_eq {q n : Nat} (hq : q ≤ n) (a : Nat) (c : Bool) :
    lshcBy a q n c =
      (a * 2 ^ q % 2 ^ n ||| if c then 2 ^ q - 1 else 0, decide (1 ≤ q) && a.testBit (n - q)) := by
  have fill : (if c then 2 ^ q - 1 else 0) < 2 ^ q := by
    have : 0 < 2 ^ q := by positivity
    split <;> omega
  exact Prod.ext (add_eq_or_of_dvd (two_pow_dvd_mul_mod hq a) fill) rfl

/-- The rule of `rshc` (43_convert_shift_unary.md R318). -/
theorem rshcBy_eq {a q n : Nat} (ha : a < 2 ^ n) (hq : q ≤ n) (c : Bool) :
    rshcBy a q n c =
      (a / 2 ^ q ||| if c then (2 ^ q - 1) * 2 ^ (n - q) else 0, decide (1 ≤ q) && a.testBit (q - 1)) := by
  have fill : 2 ^ (n - q) ∣ if c then (2 ^ q - 1) * 2 ^ (n - q) else 0 := by
    split
    · exact Dvd.intro_left _ rfl
    · exact dvd_zero _
  have result := add_eq_or_of_dvd fill (div_two_pow_lt hq ha)
  rw [add_comm, Nat.or_comm] at result
  exact Prod.ext result rfl

/-- The rule of `lrot` (43_convert_shift_unary.md R319). -/
theorem lrotBy_eq {a k n : Nat} (ha : a < 2 ^ n) (hk : k ≤ n) (c : Bool) :
    lrotBy a k n c = (a * 2 ^ k % 2 ^ n ||| a / 2 ^ (n - k), decide (1 ≤ k) && a.testBit (n - k)) := by
  have low : a / 2 ^ (n - k) < 2 ^ k := by
    have := div_two_pow_lt (Nat.sub_le n k) ha
    rwa [Nat.sub_sub_self hk] at this
  exact Prod.ext (add_eq_or_of_dvd (two_pow_dvd_mul_mod hk a) low) rfl

/-- The rule of `rrot` (43_convert_shift_unary.md R320). -/
theorem rrotBy_eq {a k n : Nat} (ha : a < 2 ^ n) (hk : k ≤ n) (c : Bool) :
    rrotBy a k n c = (a / 2 ^ k ||| a * 2 ^ (n - k) % 2 ^ n, decide (1 ≤ k) && a.testBit (k - 1)) := by
  have result := add_eq_or_of_dvd (two_pow_dvd_mul_mod (Nat.sub_le n k) a) (div_two_pow_lt hk ha)
  rw [add_comm, Nat.or_comm] at result
  exact Prod.ext result rfl

section
variable {s : State} {g : Shifter} {n : Nat} {a q : Word} {v : Nat} {c : Bool}

/-- A shift by at most the width gives what its rule does (43_convert_shift_unary.md R322). -/
theorem State.shifted_of_le (hq : q.toNat ≤ n) (hg : g a.toNat q.toNat n (s.flags.getLsbD bitC) = (v, c)) :
    s.shifted g n a q = (BitVec.ofNat 64 v, c) := by
  simp only [State.shifted, if_neg (not_lt.mpr hq), hg]

/-- A shift by more than the width gives free values (43_convert_shift_unary.md R322; log 12). -/
theorem State.shifted_of_lt (hq : n < q.toNat) :
    s.shifted g n a q = (truncBits n (Config.shiftResult s.draws), Config.shiftCarry s.draws) := if_pos hq

/-- A rotate gives what its rule does for the quantity modulo the width (43_convert_shift_unary.md R319, R320). -/
theorem State.rotated_eq (hg : g a.toNat (q.toNat % n) n (s.flags.getLsbD bitC) = (v, c)) :
    s.rotated g n a q = (BitVec.ofNat 64 v, c) := by
  simp only [State.rotated, hg]

end

/-! ### Complement, negation and parity -/

/-- The rule of `bnot` (43_convert_shift_unary.md R333). -/
theorem truncBits_bitNot {n : Nat} {x : Word} (hx : x.toNat < 2 ^ n) :
    truncBits n (bitNot x) = BitVec.ofNat 64 (x.toNat ^^^ (2 ^ n - 1)) := by
  apply BitVec.eq_of_getLsbD_eq
  intro i hi
  rw [getLsbD_truncBits, bitNot, BitVec.getLsbD_not, BitVec.getLsbD_ofNat, Nat.testBit_xor, Nat.testBit_two_pow_sub_one,
    BitVec.testBit_toNat]
  by_cases low : i < n
  · simp [low, hi]
  · have high : x.getLsbD i = false :=
      Nat.testBit_lt_two_pow (hx.trans_le (Nat.pow_le_pow_right (by decide) (not_lt.mp low)))
    simp [low, high]

/-- The rule of `neg` (43_convert_shift_unary.md R334). -/
theorem truncBits_wordNeg {n : Nat} (h64 : n ≤ 64) {x : Word} (hx : x.toNat < 2 ^ n) :
    truncBits n (wordNeg x) = BitVec.ofNat 64 ((2 ^ n - x.toNat) % 2 ^ n) := by
  apply BitVec.eq_of_toNat_eq
  rw [wordNeg, ← BitVec.zero_sub, toNat_truncBits_sub h64 hx, toNat_ofNat_mod_two_pow h64]
  simp

/-- Folding with exclusive or counts the ones modulo 2. -/
theorem foldl_bne_eq (f : Nat → Bool) (l : List Nat) (b : Bool) :
    l.foldl (fun p i => p != f i) b = (b != decide ((l.filter f).length % 2 = 1)) := by
  induction l generalizing b with
  | nil => simp
  | cons i l ih =>
    rw [List.foldl_cons, ih, List.filter_cons]
    cases hi : f i with
    | false => simp
    | true =>
      have flip : decide (((l.filter f).length + 1) % 2 = 1) = !decide ((l.filter f).length % 2 = 1) := by
        rw [← decide_not, decide_eq_decide]
        omega
      rw [if_pos rfl, List.length_cons, flip]
      cases b <;> simp

/-- P tells whether the number of ones is odd (10_state.md R35). -/
theorem oddParity_eq (v : Word) (n : Nat) :
    oddParity v n = decide (((List.range n).filter fun i => v.getLsbD i).length % 2 = 1) := by
  rw [oddParity, foldl_bne_eq, Bool.false_bne]

end Sys2Proof.Machine
end

section
/-! PROOF. Converting moves, shifts, rotates, unary operations and arithmetic with a general register
(43_convert_shift_unary.md). -/

namespace Sys2Proof.Machine

/-! ### Widths of operands and the end of an instruction -/

theorem Size.bits_pos (z : Size) : 1 ≤ z.bits := by cases z <;> decide

/-- A destination is of at most 8 whole bytes. -/
theorem State.bits_of_openTarget {s : State} {p : Place} {t : Target} (h : s.openTarget p = .ok t) :
    ∃ bytes ≤ 8, p.bits = 8 * bytes := by
  have size (z : Size) : ∃ bytes ≤ 8, z.bits = 8 * bytes := ⟨z.bytes, by cases z <;> decide, Size.bits_eq z⟩
  rcases State.openTarget_ok h with ⟨_, z, rfl, _⟩ | ⟨_, z, _, rfl, _⟩ <;> exact size z

/-- No operand has the width 0. -/
theorem State.place_bits_pos (s : State) (nip : Word) (a : Operand) : 1 ≤ (s.place nip a).bits := by
  cases a with
  | reg z _ => exact Size.bits_pos z
  | ind _ _ _ z _ => exact Size.bits_pos z
  | memRef _ z _ => exact Size.bits_pos z
  | short rel _ => cases rel <;> simp [State.place, Place.bits]
  | long rel i => cases rel <;> cases i <;> simp [State.place, Place.bits, SizedImm.bits]

theorem State.advance_withFlags (s : State) (fl nip : Word) :
    (s.withFlags fl).advance nip = { s with flags := fl, ip := nip } := rfl

/-- Flags that an instruction writes unless its `f` bit is set, over a state that has kept the flags. -/
theorem State.withFlags_unless {s u : State} (h : u.flags = s.flags) (nf : Bool) (fl nip : Word) :
    (if nf then u else u.withFlags fl).advance nip = { u with flags := if nf then s.flags else fl, ip := nip } := by
  cases nf with
  | false => rfl
  | true => rw [← h]; rfl

/-! ### Converting moves -/

section
variable {s : State} {a b : Operand} {v w : Word} {t : Target}

/-- The operand checks of the converting moves pass (43_convert_shift_unary.md R310). -/
theorem checkConvertOperands_of_ready (h : s.MoveReady a b v t) :
    checkConvertOperands (s.place (s.nip2 a b) a) (s.place (s.nip2 a b) b) = .ok () := by
  have notImm := State.isImm_of_openTarget h.target
  simp only [checkConvertOperands, Result.bind_ok, require_ok]
  exact ⟨(), by simp [notImm], (), by simpa using h.oneReg, by simpa using ⟨h.notIp, h.notFlags⟩⟩

/-- Writing a converted value that the destination admits. -/
theorem State.writeConverted_of_check (h : s.MoveReady a b v t) (hc : s.checkTarget w t = .ok ()) (n : Nat) (nf : Bool) :
    s.writeConverted (s.nip2 a b) t w n nf =
      .ok { s.setTarget w t with flags := if nf then s.flags else setZN s.flags w n, ip := s.nip2 a b } := by
  have kept : (s.setTarget w t).flags = s.flags := State.setTarget_flags w h.target h.notFlags
  simp only [State.writeConverted, Result.bind_ok, State.writeTarget_ok]
  exact ⟨_, ⟨hc, rfl⟩, congrArg Except.ok (State.withFlags_unless kept nf _ _)⟩

/-- `movsx` with its checks passed writes the source fitted by its sign (43_convert_shift_unary.md R311). -/
theorem moveSigned_of_ready (h : s.MoveReady a b v t) (nf : Bool)
    (hw : signFit (s.place (s.nip2 a b) b).bits (s.place (s.nip2 a b) a).bits v = w)
    (hc : s.checkTarget w t = .ok ()) :
    moveSigned nf a b s =
      .ok { s.setTarget w t with
            flags := if nf then s.flags else setZN s.flags w (s.place (s.nip2 a b) a).bits, ip := s.nip2 a b } := by
  subst hw
  simp only [moveSigned, Result.bind_ok]
  exact ⟨(), h.classes, (), checkConvertOperands_of_ready h, v, h.source, t, h.target,
    State.writeConverted_of_check h hc _ nf⟩

/-- `bswap` between operands of one size writes the bytes reversed (43_convert_shift_unary.md R312). -/
theorem swapBytes_of_ready (h : s.MoveReady a b v t) (nf : Bool)
    (size : (s.place (s.nip2 a b) a).bits = (s.place (s.nip2 a b) b).bits)
    (hw : byteReverse ((s.place (s.nip2 a b) a).bits / 8) v = w) (hc : s.checkTarget w t = .ok ()) :
    swapBytes nf a b s =
      .ok { s.setTarget w t with
            flags := if nf then s.flags else setZN s.flags w (s.place (s.nip2 a b) a).bits, ip := s.nip2 a b } := by
  subst hw
  simp only [swapBytes, Result.bind_ok]
  exact ⟨(), h.classes, (), checkConvertOperands_of_ready h, (), require_ok.mpr (beq_iff_eq.mpr size), v, h.source, t,
    h.target, State.writeConverted_of_check h hc _ nf⟩

end

/-- Settles O24: the source fitted by its sign is the same signed number, and the bytes of the reversed value are those of
the source reversed. -/
theorem convertingMoves : Obligations.ConvertingMoves := by
  intro f a b s v t ready nd ns done
  obtain ⟨bytes, le, hnd⟩ : ∃ bytes ≤ 8, nd = 8 * bytes := State.bits_of_openTarget ready.target
  constructor
  · refine ⟨signFit ns nd v, signFit_lt ns nd v, ?_, fun hc => congrArg (finish s) (moveSigned_of_ready ready f rfl hc)⟩
    split
    next h => exact signFit_of_le h v
    next h =>
      exact signedOf_signFit (not_le.mp h) (s.place_bits_pos _ b) (by omega) (State.readPlace_lt ready.source)
  · intro size
    obtain ⟨fits, reversed⟩ := byteReverse_bytes (n := nd / 8) (by omega) v
    have whole : 8 * (nd / 8) = nd := by omega
    rw [whole] at fits
    exact ⟨byteReverse (nd / 8) v, fits, reversed,
      fun hc => congrArg (finish s) (swapBytes_of_ready ready f size rfl hc)⟩

/-! ### Shifts and rotates -/

section
variable {s : State} {l : Bool} {a b : Operand} {x y v : Word} {t : Target} {g : Nat → Word → Word → Word × Bool}
  {c : Bool}

/-- The operand checks of the shifts pass (43_convert_shift_unary.md R313). -/
theorem checkAluOperands_of_ready (h : s.AluReady l a b x y t) :
    checkAluOperands l (s.place (s.nip2 a b) a) (s.place (s.nip2 a b) b) = .ok () := by
  have notImm := State.isImm_of_openTarget h.target
  have lock : (!l || (s.place (s.nip2 a b) a).isMem) = true := by
    cases l with
    | false => rfl
    | true => exact h.lock rfl
  simp only [checkAluOperands, Result.bind_ok, require_ok]
  exact ⟨(), by simp [notImm], (), by simpa [or_assoc] using h.oneGprOrImm, (), lock,
    by simpa using ⟨h.notFlags, h.notIp⟩⟩

/-- A shift or rotate whose checks pass and whose destination admits the result (43_convert_shift_unary.md R313, R322). -/
theorem shift2_next (h : s.AluReady l a b x y t) (f : Bool) (hg : g (s.place (s.nip2 a b) a).bits x y = (v, c))
    (hc : s.checkTarget v t = .ok ()) :
    finish s (shift2 g l f a b s) = .next { s.setTarget v t with
      flags :=
        if f then s.flags
        else setZN (setCV s.flags c (decide ((s.place (s.nip2 a b) a).bits < y.toNat))) v (s.place (s.nip2 a b) a).bits
      ip := s.nip2 a b } := by
  have answer := shift2_of_ready h g f (by rw [hg]; exact hc)
  rw [hg] at answer
  exact congrArg (finish s) answer

/-- A shift whose checks pass and whose destination refuses the result (60_exceptions.md R498). -/
theorem shift2_raises (h : s.AluReady l a b x y t) (f : Bool) (hg : g (s.place (s.nip2 a b) a).bits x y = (v, c)) {e : Exc}
    (hc : s.checkTarget v t = raise e) : finish s (shift2 g l f a b s) = .next (s.takeException e) := by
  have refused : shift2 g l f a b s = raise e := by
    simp only [shift2, h.classes, checkAluOperands_of_ready h, h.source, h.target, h.value, bind, Except.bind, hg,
      State.writeTarget, hc]
    rfl
  rw [refused]
  rfl

end

section
variable {s : State} {a : Operand} {y v : Word} {r : BitVec 4} {g : Nat → Word → Word → Word × Bool} {c : Bool}

/-- A shift or rotate of a general register (43_convert_shift_unary.md R323). -/
theorem shiftGpr_next (h : s.checkOperands [a] = .ok ()) (hy : s.readPlace (s.nip1 a) (s.place (s.nip1 a) a) = .ok y)
    (hg : g 64 (s.r r) y = (v, c)) :
    finish s (shiftGpr g r a s) = .next { s.setR r v with
      flags := setZN (setCV s.flags c (decide (64 < y.toNat))) v 64, ip := s.nip1 a } := by
  have answer : shiftGpr g r a s = .ok (((s.setR r v).withFlags (shiftFlags s.flags (v, c) 64 y)).advance (s.nip1 a)) := by
    simp only [shiftGpr, Result.bind_ok]
    exact ⟨(), h, y, hy, by rw [hg]⟩
  exact congrArg (finish s) answer

end

/-- Settles O25: each shift and rotate gives what its rule does. -/
theorem shiftsAndRotates : Obligations.ShiftsAndRotates := by
  intro l f o p s x y t ready n a q done k lsh rsh arsh lshc rshc lrot rrot left right leftRot rightRot
  have ha : a < 2 ^ n := State.readTarget_lt ready.target ready.value
  have hn : 1 ≤ n := s.place_bits_pos _ o
  have hk : k ≤ n := (Nat.mod_lt q hn).le
  exact ⟨fun hq => ⟨shift2_next ready f (State.shifted_of_le hq rfl), shift2_next ready f (State.shifted_of_le hq rfl),
      shift2_next ready f (State.shifted_of_le hq (arshBy_eq hn ha hq _)),
      shift2_next ready f (State.shifted_of_le hq (lshcBy_eq hq a _)),
      shift2_next ready f (State.shifted_of_le hq (rshcBy_eq ha hq _))⟩,
    shift2_next ready f (State.rotated_eq (lrotBy_eq ha hk _)), shift2_next ready f (State.rotated_eq (rrotBy_eq ha hk _))⟩

/-- Settles O26: the same rules at 64 bits. -/
theorem gprShiftsAndRotates : Obligations.GprShiftsAndRotates := by
  intro r o s y h hy n a q done k lsh rsh arsh lshc rshc lrot rrot left right leftRot rightRot
  have ha : a < 2 ^ n := (s.r r).isLt
  have hn : 1 ≤ n := by decide
  have hk : k ≤ n := (Nat.mod_lt q hn).le
  exact ⟨fun hq => ⟨shiftGpr_next h hy (State.shifted_of_le hq rfl), shiftGpr_next h hy (State.shifted_of_le hq rfl),
      shiftGpr_next h hy (State.shifted_of_le hq (arshBy_eq hn ha hq _)),
      shiftGpr_next h hy (State.shifted_of_le hq (lshcBy_eq hq a _)),
      shiftGpr_next h hy (State.shifted_of_le hq (rshcBy_eq ha hq _))⟩,
    shiftGpr_next h hy (State.rotated_eq (lrotBy_eq ha hk _)), shiftGpr_next h hy (State.rotated_eq (rrotBy_eq ha hk _))⟩

/-- Settles O27: the free result and carry are the same for each shift. -/
theorem shiftsPastTheWidth : Obligations.ShiftsPastTheWidth := by
  constructor
  · intro l f o p s x y t ready past n i hi
    obtain ⟨g, hg⟩ : ∃ g, exec i s = finish s (shift2 (s.shifted g) l f o p s) := by
      simp only [List.mem_cons, List.not_mem_nil, or_false] at hi
      rcases hi with rfl | rfl | rfl | rfl | rfl
      exacts [⟨lshBy, rfl⟩, ⟨rshBy, rfl⟩, ⟨arshBy, rfl⟩, ⟨lshcBy, rfl⟩, ⟨rshcBy, rfl⟩]
    refine ⟨truncBits n (Config.shiftResult s.draws), Config.shiftCarry s.draws, truncBits_lt n _, fun hc => ?_,
      fun e hc => hg.trans (shift2_raises ready f (State.shifted_of_lt past) hc)⟩
    have answer := shift2_next ready f (State.shifted_of_lt (g := g) past) hc
    rw [decide_eq_true past] at answer
    exact hg.trans answer
  · intro r o s y h hy past i hi
    obtain ⟨g, hg⟩ : ∃ g, exec i s = finish s (shiftGpr (s.shifted g) r o s) := by
      simp only [List.mem_cons, List.not_mem_nil, or_false] at hi
      rcases hi with rfl | rfl | rfl | rfl | rfl
      exacts [⟨lshBy, rfl⟩, ⟨rshBy, rfl⟩, ⟨arshBy, rfl⟩, ⟨lshcBy, rfl⟩, ⟨rshcBy, rfl⟩]
    have answer := shiftGpr_next h hy (r := r) (State.shifted_of_lt (s := s) (g := g) past)
    rw [decide_eq_true past] at answer
    exact ⟨_, _, hg.trans answer⟩

/-! ### Unary operations -/

section
variable {s : State} {a : Operand} {x v : Word} {t : Target} {g : Word → Word}

/-- A unary operation whose checks pass and whose destination admits the result (43_convert_shift_unary.md R332). -/
theorem unary_of_ready (h : s.TargetReady a x t) (nf : Bool) (hv : truncBits (s.place (s.nip1 a) a).bits (g x) = v)
    (hc : s.checkTarget v t = .ok ()) :
    unary g nf a s =
      .ok { s.setTarget v t with
            flags := if nf then s.flags else unaryFlags s.flags v (s.place (s.nip1 a) a).bits, ip := s.nip1 a } := by
  subst hv
  have notImm := State.isImm_of_openTarget h.target
  have kept := State.setTarget_flags (s := s) (truncBits (s.place (s.nip1 a) a).bits (g x)) h.target h.notFlags
  simp only [unary, Result.bind_ok, require_ok, State.writeTarget_ok]
  exact ⟨(), h.classes, (), by simp [notImm], (), by simpa using ⟨h.notIp, h.notFlags⟩, t, h.target, x, h.value, _,
    ⟨hc, rfl⟩, congrArg Except.ok (State.withFlags_unless kept nf _ _)⟩

/-- A unary operation on a general register (43_convert_shift_unary.md R335, R336). -/
theorem unaryGpr_eq {r : BitVec 4} (hv : truncBits 64 (g (s.r r)) = v) :
    unaryGpr g r s = .ok { s.setR r v with flags := unaryFlags s.flags v 64, ip := s.ip + 2 } := by
  rw [unaryGpr, ← truncBits_64 (g (s.r r)), hv, State.advance_withFlags]
  rfl

end

/-- The flags of a unary operation, with P from the number of ones (10_state.md R35, 43_convert_shift_unary.md R332). -/
theorem unaryFlags_eq (fl v : Word) (n : Nat) :
    unaryFlags fl v n =
      putBit (setZN fl v n) bitP (decide (((List.range n).filter fun i => v.getLsbD i).length % 2 = 1)) := by
  rw [unaryFlags, setP, oddParity_eq]

/-- Settles O28: the low bits of the complement and the negation of a word are those of the rules. -/
theorem unaryOperations : Obligations.UnaryOperations := by
  unfold Obligations.UnaryOperations
  intro flagsOf
  have flags : flagsOf = unaryFlags := by
    funext fl v n
    exact (unaryFlags_eq fl v n).symm
  rw [flags]
  constructor
  · intro l f o s x t ready n complement negation done
    obtain ⟨bytes, le, hn⟩ : ∃ bytes ≤ 8, n = 8 * bytes := State.bits_of_openTarget ready.target
    have h64 : n ≤ 64 := by omega
    have hx : x.toNat < 2 ^ n := State.readTarget_lt ready.target ready.value
    exact ⟨fun hc => congrArg (finish s) (unary_of_ready ready f (truncBits_bitNot hx) hc),
      fun hc => congrArg (finish s) (unary_of_ready ready f (truncBits_wordNeg h64 hx) hc)⟩
  · intro r s complement negation done
    exact ⟨congrArg (finish s) (unaryGpr_eq (truncBits_bitNot (s.r r).isLt)),
      congrArg (finish s) (unaryGpr_eq (truncBits_wordNeg le_rfl (s.r r).isLt))⟩

/-! ### Arithmetic with a general register -/

/-- The flags of a bitwise operation at 64 bits (40_undefined_alu_muldiv.md R235). -/
theorem logicOf_64 (f : Word → Word → Word) (fl x y : Word) : logicOf f fl x y 64 = logicFlags fl (f x y) 64 := by
  rw [logicOf, truncBits_64]

/-- A bitwise operation into a general register (43_convert_shift_unary.md R340 to R342). -/
theorem logicToGpr_of_read {s : State} {a : Operand} {y : Word} (h : s.checkOperands [a] = .ok ())
    (hy : s.readPlace (s.nip1 a) (s.place (s.nip1 a) a) = .ok y) (f : Word → Word → Word) (r : BitVec 4) :
    aluToGpr f (logicOf f) r a s =
      .ok { s.setR r (f (s.r r) y) with flags := logicFlags s.flags (f (s.r r) y) 64, ip := s.nip1 a } := by
  rw [aluToGpr_of_read h hy, logicOf_64]

/-- Settles O14: the forms with a destination register and with a source register, each with its own operation and flags. -/
theorem aluWithGpr : Obligations.AluWithGpr := by
  constructor
  · intro r a s y h hy x done
    exact ⟨congrArg (finish s) (aluToGpr_of_read h hy wordAdd addFlags r),
      congrArg (finish s) (aluToGpr_of_read h hy wordSub subFlags r),
      congrArg (finish s) (logicToGpr_of_read h hy bitAnd r), congrArg (finish s) (logicToGpr_of_read h hy bitOr r),
      congrArg (finish s) (logicToGpr_of_read h hy bitXor r)⟩
  · intro r a s x t ready
    exact ⟨fun hc => congrArg (finish s) (aluFromGpr_of_ready ready wordAdd addFlags r hc),
      fun hc => congrArg (finish s) (aluFromGpr_of_ready ready wordSub subFlags r hc),
      fun hc => congrArg (finish s) (aluFromGpr_of_ready ready bitAnd (logicOf bitAnd) r hc),
      fun hc => congrArg (finish s) (aluFromGpr_of_ready ready bitOr (logicOf bitOr) r hc),
      fun hc => congrArg (finish s) (aluFromGpr_of_ready ready bitXor (logicOf bitXor) r hc)⟩

end Sys2Proof.Machine
end

section
/-! PROOF. Conditional moves and comparisons (44_cmov_compare.md), and what the condition codes say after a comparison
(46_branches.md R392). -/

namespace Sys2Proof.Machine

/-! ### Conditional moves -/

/-- The check that not both operands are in memory. -/
theorem require_not_both {c d : Bool} {e : Exc} {u : Unit} : require (!(c && d)) e = .ok u ↔ ¬(c = true ∧ d = true) := by
  rw [require_ok, Bool.not_eq_true', ← Bool.not_eq_true, Bool.and_eq_true]

/-- The operand checks of a conditional move pass for a writable operand 1 and at most one memory operand
(44_cmov_compare.md R350). -/
theorem checkConditionalMove_ok {p q : Place} {u : Unit} :
    checkConditionalMove p q = .ok u ↔ p.isImm = false ∧ ¬(p.isMem = true ∧ q.isMem = true) := by
  simp only [checkConditionalMove, Result.bind_ok, require_not_both]
  simp only [require_ok, Bool.not_eq_true', exists_const]

/-- The destination check of a conditional move passes for every operand but `ip` and `mode` (44_cmov_compare.md R350). -/
theorem checkConditionalDestination_ok {p : Place} {u : Unit} :
    checkConditionalDestination p = .ok u ↔ p.isRegister 16 = false ∧ p.isRegister 18 = false := by
  simp [checkConditionalDestination]

section
variable {s u : State} {nip v w : Word} {p q : Place} {t : Target} {holds : Bool} {cc : Cond} {a b : Operand}

/-- Where the condition holds, operand 1 receives operand 2 cut to its width. -/
theorem State.conditionalMove_of_holds (hv : s.readPlace nip q = .ok v) (ht : s.openTarget p = .ok t)
    (hc : s.checkTarget (truncBits p.bits v) t = .ok ()) (hh : holds = true) :
    s.conditionalMove nip p q holds = .ok { s.setTarget (truncBits p.bits v) t with ip := nip } := by
  simp only [State.conditionalMove, Result.bind_ok, hh, if_true, State.writeTarget_ok]
  exact ⟨v, hv, t, ht, _, ⟨hc, rfl⟩, rfl⟩

/-- Where the condition fails, both operands are validated and only `ip` changes. -/
theorem State.conditionalMove_of_not_holds (hv : s.readPlace nip q = .ok v) (ht : s.openTarget p = .ok t)
    (hh : holds = false) : s.conditionalMove nip p q holds = .ok { s with ip := nip } := by
  simp only [State.conditionalMove, Result.bind_ok, hh, Bool.false_eq_true, if_false]
  exact ⟨v, hv, t, ht, rfl⟩

/-- `cmov` with its checks passed is the move under the condition on `flags` (44_cmov_compare.md R352). -/
theorem moveIf_of_checks (h : s.checkOperands [a, b] = .ok ())
    (hm : checkConditionalMove (s.place (s.nip2 a b) a) (s.place (s.nip2 a b) b) = .ok ())
    (hd : checkConditionalDestination (s.place (s.nip2 a b) a) = .ok ())
    (answer : s.conditionalMove (s.nip2 a b) (s.place (s.nip2 a b) a) (s.place (s.nip2 a b) b) (condHolds cc s.flags) = .ok u) :
    moveIf cc a b s = .ok u := by
  simp only [moveIf, Result.bind_ok]
  exact ⟨(), h, (), hm, (), hd, answer⟩

/-- `cmovt` with its checks passed is the move under the condition on its register operand (44_cmov_compare.md R351). -/
theorem moveIfOperand_of_checks {z : Size} {r : BitVec 8} {f : Word} (hn : nip = s.nip3 a b (.reg z r))
    (h : s.checkOperands [a, b, .reg z r] = .ok ()) (hm : checkConditionalMove (s.place nip a) (s.place nip b) = .ok ())
    (hd : checkConditionalDestination (s.place nip a) = .ok ()) (hf : s.readRegister nip r z = .ok f)
    (answer : s.conditionalMove nip (s.place nip a) (s.place nip b) (condHolds cc f) = .ok u) :
    moveIfOperand cc a b (.reg z r) s = .ok u := by
  subst hn
  have place : s.place (s.nip3 a b (.reg z r)) (.reg z r) = .reg r z := rfl
  simp only [moveIfOperand, Result.bind_ok, place]
  exact ⟨(), h, (), hm, (), hd, f, hf, answer⟩

end

/-- Settles O29: both forms are the same move, under the condition on `flags` or on operand 3. -/
theorem conditionalMoves : Obligations.ConditionalMoves := by
  intro cc a b s nip v t notImm notBothMem notIp notMode hv ht w moved kept
  have checks : checkConditionalMove (s.place nip a) (s.place nip b) = .ok () :=
    checkConditionalMove_ok.mpr ⟨notImm, notBothMem⟩
  have destination : checkConditionalDestination (s.place nip a) = .ok () :=
    checkConditionalDestination_ok.mpr ⟨notIp, notMode⟩
  constructor
  · rintro rfl h
    exact ⟨fun hh hc => congrArg (finish s)
        (moveIf_of_checks h checks destination (State.conditionalMove_of_holds hv ht hc hh)),
      fun hh => congrArg (finish s)
        (moveIf_of_checks h checks destination (State.conditionalMove_of_not_holds hv ht hh))⟩
  · intro z r f hn h hf
    exact ⟨fun hh hc => congrArg (finish s)
        (moveIfOperand_of_checks hn h checks destination hf (State.conditionalMove_of_holds hv ht hc hh)),
      fun hh => congrArg (finish s)
        (moveIfOperand_of_checks hn h checks destination hf (State.conditionalMove_of_not_holds hv ht hh))⟩

/-! ### Comparisons -/

/-- A comparison of two readable operands changes the flags and `ip` only (44_cmov_compare.md R355). -/
theorem compare2_of_read {s : State} {a b : Operand} {x y : Word} (h : s.checkOperands [a, b] = .ok ())
    (notImm : (s.place (s.nip2 a b) a).isImm = false)
    (notBothMem : ¬((s.place (s.nip2 a b) a).isMem = true ∧ (s.place (s.nip2 a b) b).isMem = true))
    (hx : s.readPlace (s.nip2 a b) (s.place (s.nip2 a b) a) = .ok x)
    (hy : s.readPlace (s.nip2 a b) (s.place (s.nip2 a b) b) = .ok y) (fl : Word → Word → Word → Nat → Word) :
    compare2 fl a b s =
      .ok { s with
            flags := fl s.flags x y (max (s.place (s.nip2 a b) a).bits (s.place (s.nip2 a b) b).bits)
            ip := s.nip2 a b } := by
  simp only [compare2, Result.bind_ok]
  exact ⟨(), h, (), require_ok.mpr (by simp [notImm]), (), require_not_both.mpr notBothMem, x, hx, y, hy, rfl⟩

/-- A comparison of a general register with a readable operand changes the flags and `ip` only (44_cmov_compare.md R355). -/
theorem compareGpr_of_read {s : State} {a : Operand} {y : Word} (h : s.checkOperands [a] = .ok ())
    (hy : s.readPlace (s.nip1 a) (s.place (s.nip1 a) a) = .ok y) (fl : Word → Word → Word → Nat → Word) (r : BitVec 4) :
    compareGpr fl r a s = .ok { s with flags := fl s.flags (s.r r) y 64, ip := s.nip1 a } := by
  simp only [compareGpr, Result.bind_ok]
  exact ⟨(), h, y, hy, rfl⟩

/-- Settles O30: `test` and the gpr forms are comparisons, each with its own flags. -/
theorem compareAndTest : Obligations.CompareAndTest :=
  ⟨fun _ _ s _ _ h notImm notBothMem hx hy =>
      congrArg (finish s) (compare2_of_read h notImm notBothMem hx hy testFlags),
    fun r _ s _ h hy => ⟨congrArg (finish s) (compareGpr_of_read h hy subFlags r),
      congrArg (finish s) (compareGpr_of_read h hy testFlags r)⟩⟩

/-! ### Condition codes after a comparison -/

/-- The top bit of an `n`-bit difference differs from its signed overflow exactly when the first operand is the smaller
signed number. -/
theorem sign_ne_overflow_sub {n a b : Nat} (hn : 1 ≤ n) (ha : a < 2 ^ n) (hb : b < 2 ^ n) :
    (decide (2 ^ (n - 1) ≤ (a + 2 ^ n - b) % 2 ^ n) != !fitsSigned n (signedOf n a - signedOf n b)) =
      decide (signedOf n a < signedOf n b) := by
  obtain ⟨m, rfl⟩ := Nat.exists_eq_add_of_le' hn
  rw [fitsSigned_succ, signedOf_succ, signedOf_succ, Nat.add_sub_cancel]
  rw [pow_succ'] at ha hb ⊢
  generalize 2 ^ m = p at *
  have mod := mod_of_lt_two_mul (show a + 2 * p - b < 2 * (2 * p) by omega)
  generalize (a + 2 * p - b) % (2 * p) = r at *
  rw [Bool.eq_iff_iff, bne_iff_ne, ← decide_not, ne_eq, decide_eq_decide, decide_eq_true_eq]
  unfold signedHalf
  split_ifs <;> omega

/-- Two `n`-bit numbers are equal exactly when they are equal as signed ones. -/
theorem signedOf_inj {n a b : Nat} (hn : 1 ≤ n) (ha : a < 2 ^ n) (hb : b < 2 ^ n) :
    signedOf n a = signedOf n b ↔ a = b := by
  obtain ⟨m, rfl⟩ := Nat.exists_eq_add_of_le' hn
  rw [signedOf_succ, signedOf_succ]
  rw [pow_succ'] at ha hb
  unfold signedHalf
  split_ifs <;> omega

section
variable {n : Nat} {x y : Word} (h1 : 1 ≤ n) (h64 : n ≤ 64) (hx : x.toNat < 2 ^ n) (hy : y.toNat < 2 ^ n) (fl : Word)
include h1 h64 hx hy

/-- After a subtraction, Carry is the unsigned comparison (46_branches.md R392). -/
theorem condHolds_c_subFlags : condHolds .c (subFlags fl x y n) = decide (x.toNat < y.toNat) :=
  getLsbD_subFlags fl h1 h64 hx hy 0

/-- After a subtraction, Zero/Eq is the equality of the operands. -/
theorem condHolds_z_subFlags : condHolds .z (subFlags fl x y n) = decide (x = y) :=
  getLsbD_subFlags fl h1 h64 hx hy 1

/-- After a subtraction, Less is the signed comparison. -/
theorem condHolds_lt_subFlags :
    condHolds .lt (subFlags fl x y n) = decide (signedOf n x.toNat < signedOf n y.toNat) := by
  have negative : (subFlags fl x y n).getLsbD bitN = decide (2 ^ (n - 1) ≤ (x.toNat + 2 ^ n - y.toNat) % 2 ^ n) :=
    (getLsbD_subFlags fl h1 h64 hx hy 3).trans (getLsbD_truncBits_top h1 (toNat_truncBits_sub h64 hy)).2
  have overflow : (subFlags fl x y n).getLsbD bitV = !fitsSigned n (signedOf n x.toNat - signedOf n y.toNat) :=
    getLsbD_subFlags fl h1 h64 hx hy 2
  simp only [condHolds, negative, overflow]
  exact sign_ne_overflow_sub h1 hx hy

/-- After a subtraction, Below or Eq is the unsigned comparison. -/
theorem condHolds_be_subFlags : condHolds .be (subFlags fl x y n) = decide (x.toNat ≤ y.toNat) := by
  have codes (t : Word) : condHolds .be t = (condHolds .c t || condHolds .z t) := rfl
  rw [codes, condHolds_c_subFlags h1 h64 hx hy, condHolds_z_subFlags h1 h64 hx hy, ← Bool.decide_or, decide_eq_decide,
    ← BitVec.toNat_inj]
  exact le_iff_lt_or_eq.symm

/-- After a subtraction, Less or Eq is the signed comparison. -/
theorem condHolds_le_subFlags :
    condHolds .le (subFlags fl x y n) = decide (signedOf n x.toNat ≤ signedOf n y.toNat) := by
  have codes (t : Word) : condHolds .le t = (condHolds .lt t || condHolds .z t) := rfl
  rw [codes, condHolds_lt_subFlags h1 h64 hx hy, condHolds_z_subFlags h1 h64 hx hy, ← Bool.decide_or, decide_eq_decide,
    ← BitVec.toNat_inj, ← signedOf_inj h1 hx hy]
  exact le_iff_lt_or_eq.symm

end

/-- Greater is the negation of Less or Eq (46_branches.md R392). -/
theorem condHolds_gt (t : Word) : condHolds .gt t = !condHolds .le t := by
  simp [condHolds, bne]

/-- Greater or Eq is the negation of Less (46_branches.md R392). -/
theorem condHolds_ge (t : Word) : condHolds .ge t = !condHolds .lt t := by
  simp [condHolds, bne]

/-- Above is the negation of Below or Eq (46_branches.md R392). -/
theorem condHolds_a (t : Word) : condHolds .a t = !condHolds .be t := by
  simp [condHolds]

/-- No operand is wider than a word. -/
theorem State.place_bits_le (s : State) (nip : Word) (a : Operand) : (s.place nip a).bits ≤ 64 := by
  cases a with
  | reg z _ => exact Size.bits_le z
  | ind _ _ _ z _ => exact Size.bits_le z
  | memRef _ z _ => exact Size.bits_le z
  | short rel _ => cases rel <;> simp [State.place, Place.bits]
  | long rel i => cases rel <;> cases i <;> simp [State.place, Place.bits, SizedImm.bits]

/-- Settles O12: `cmp` sets the flags of the difference at the larger width, which holds both values. -/
theorem compareThenCondition : Obligations.CompareThenCondition := by
  intro a b s x y h notImm notBothMem hx hy n sx sy
  have h1 : 1 ≤ n := le_max_of_le_left (s.place_bits_pos _ a)
  have h64 : n ≤ 64 := max_le (s.place_bits_le _ a) (s.place_bits_le _ b)
  have fitsX : x.toNat < 2 ^ n :=
    (State.readPlace_lt hx).trans_le (Nat.pow_le_pow_right (by decide) (le_max_left _ _))
  have fitsY : y.toNat < 2 ^ n :=
    (State.readPlace_lt hy).trans_le (Nat.pow_le_pow_right (by decide) (le_max_right _ _))
  obtain ⟨-, -, kept⟩ := arithmeticFlags s.flags x y n h1 h64 fitsX fitsY
  have lt := condHolds_lt_subFlags h1 h64 fitsX fitsY s.flags
  have le := condHolds_le_subFlags h1 h64 fitsX fitsY s.flags
  have c := condHolds_c_subFlags h1 h64 fitsX fitsY s.flags
  have be := condHolds_be_subFlags h1 h64 fitsX fitsY s.flags
  have z := condHolds_z_subFlags h1 h64 fitsX fitsY s.flags
  refine ⟨_, congrArg (finish s) (compare2_of_read h notImm notBothMem hx hy subFlags), rfl, fun i hi => (kept i hi).2,
    lt, le, ?gt, ?ge, c, be, ?a, ?nc, z, ?nz⟩
  case gt => rw [condHolds_gt, le, ← decide_not, decide_eq_decide, not_le]
  case ge => rw [condHolds_ge, lt, ← decide_not, decide_eq_decide, not_lt]
  case a => rw [condHolds_a, be, ← decide_not, decide_eq_decide, not_le]
  case nc => exact (congrArg not c).trans (by rw [← decide_not, decide_eq_decide, not_lt])
  case nz => exact (congrArg not z).trans decide_not.symm

end Sys2Proof.Machine
end

section
/-! PROOF. The atomic operations, the memory fence and the flushes that record a synchronization (45_atomic_fence.md,
48_supervisor.md R456, R457). -/

namespace Sys2Proof.Machine

/-! ### Exchange -/

section
variable {s : State} {nip x y : Word} {a b : Operand} {t u : Target}

/-- The operand checks of the atomic operations pass (45_atomic_fence.md R370). -/
theorem checkAtomicOperands_of_ready (h : s.AtomicReady nip a b t u) :
    checkAtomicOperands (s.place nip a) (s.place nip b) = .ok () := by
  have firstNotImm := State.isImm_of_openTarget h.first
  have secondNotImm := State.isImm_of_openTarget h.second
  obtain ⟨firstNotIp, secondNotIp⟩ := h.notIp
  obtain ⟨firstNotFlags, secondNotFlags⟩ := h.notFlags
  simp only [checkAtomicOperands, Result.bind_ok, require_ok]
  exact ⟨(), by simp [firstNotImm, secondNotImm], (), by simpa using h.oneReg,
    by simpa using ⟨⟨⟨firstNotIp, firstNotFlags⟩, secondNotIp⟩, secondNotFlags⟩⟩

/-- `xchg` with its checks passed writes each operand with the value the other held (45_atomic_fence.md R371). -/
theorem exchange_of_ready (h : s.checkOperands [a, b] = .ok ()) (ready : s.AtomicReady (s.nip2 a b) a b t u)
    (hx : s.readTarget (s.nip2 a b) t = .ok x) (hy : s.readTarget (s.nip2 a b) u = .ok y)
    (first : s.checkTarget (truncBits (s.place (s.nip2 a b) a).bits y) t = .ok ())
    (second : s.checkTarget (truncBits (s.place (s.nip2 a b) b).bits x) u = .ok ()) :
    exchange a b s =
      .ok { (s.setTarget (truncBits (s.place (s.nip2 a b) a).bits y) t).setTarget
              (truncBits (s.place (s.nip2 a b) b).bits x) u with ip := s.nip2 a b } := by
  simp only [exchange, Result.bind_ok]
  exact ⟨(), h, (), checkAtomicOperands_of_ready ready, t, ready.first, u, ready.second, y, hy, x, hx, (), first, (),
    second, rfl⟩

end

/-- Settles O31: both old values are read, and both new ones checked, before the first write. -/
theorem Atomic.exchange : Obligations.Exchange :=
  fun _ _ s _ _ _ _ h ready hx hy first second => congrArg (finish s) (exchange_of_ready h ready hx hy first second)

/-! ### Compare and exchange -/

/-- A write to paging control takes no notice of the flags. -/
theorem State.setPaging_withFlags (s : State) (fl cr0 page : Word) :
    (s.withFlags fl).setPaging cr0 page = (s.setPaging cr0 page).withFlags fl := by
  unfold State.setPaging
  simp only [apply_ite (State.withFlags · fl)]
  rfl

/-- A write to a register other than `flags` takes no notice of the flags. -/
theorem State.writeReg_withFlags (s : State) (fl : Word) {r : BitVec 8} (h : r ≠ 17) (v : Word) :
    (s.withFlags fl).writeReg r v = (s.writeReg r v).withFlags fl := by
  have notFlags : r.toNat ≠ 17 := fun e => h (BitVec.eq_of_toNat_eq e)
  unfold State.writeReg
  split
  next => rfl
  next =>
    split
    next e => exact absurd e notFlags
    next => exact s.setPaging_withFlags fl v s.page
    next => exact s.setPaging_withFlags fl s.cr0 v
    all_goals rfl

/-- A write through an operand other than `flags` takes no notice of the flags. -/
theorem State.setTarget_withFlags (s : State) (fl v : Word) {w : State} {p : Place} {t : Target} (h : w.openTarget p = .ok t)
    (notFlags : p.isRegister 17 = false) : (s.withFlags fl).setTarget v t = (s.setTarget v t).withFlags fl := by
  rcases State.openTarget_ok h with ⟨r, z, rfl, rfl⟩ | ⟨_, _, pas, rfl, _, rfl⟩
  · exact s.writeReg_withFlags fl (by simpa [Place.isRegister] using notFlags) v
  · rfl

section
variable {s : State} {a b c : Operand} {t u : Target} {new old expected : Word} {fails : Bool}
  (h : s.checkOperands [a, b, c] = .ok ()) (ready : s.AtomicReady (s.nip3 a b c) a b t u)
  (hold : s.readTarget (s.nip3 a b c) t = .ok old) (hexpected : s.readTarget (s.nip3 a b c) u = .ok expected)
  (hnew : s.readPlace (s.nip3 a b c) (s.place (s.nip3 a b c) c) = .ok new)
include h ready hold hexpected hnew

/-- A `cmpxchg` or `wcmpxchg` that finds the values equal and does not fail stores operand 3 in operand 1 and sets Z
(45_atomic_fence.md R372, R373). -/
theorem compareExchange_of_same (stored : s.checkTarget (truncBits (s.place (s.nip3 a b c) a).bits new) t = .ok ())
    (same : (old == expected && !fails) = true) :
    compareExchange fails a b c s =
      .ok { s.setTarget (truncBits (s.place (s.nip3 a b c) a).bits new) t with
            flags := putBit s.flags bitZ true, ip := s.nip3 a b c } := by
  simp only [compareExchange, Result.bind_ok]
  refine ⟨(), h, (), checkAtomicOperands_of_ready ready, t, ready.first, u, ready.second, new, hnew, expected, hexpected, old,
    hold, (), ?_⟩
  simp only [same, if_true]
  refine ⟨stored, ?_⟩
  split <;> rfl

/-- A `cmpxchg` or `wcmpxchg` that finds the values different, or fails, stores the old value back, gives it to operand 2
and clears Z (45_atomic_fence.md R372, R373). -/
theorem compareExchange_of_not_same (back : s.checkTarget old t = .ok ())
    (observed : s.checkTarget (truncBits (s.place (s.nip3 a b c) b).bits old) u = .ok ())
    (same : (old == expected && !fails) = false) :
    compareExchange fails a b c s =
      .ok { (s.setTarget old t).setTarget (truncBits (s.place (s.nip3 a b c) b).bits old) u with
            flags := putBit s.flags bitZ false, ip := s.nip3 a b c } := by
  simp only [compareExchange, Result.bind_ok]
  refine ⟨(), h, (), checkAtomicOperands_of_ready ready, t, ready.first, u, ready.second, new, hnew, expected, hexpected, old,
    hold, (), ?_⟩
  simp only [same, Bool.false_eq_true, if_false]
  refine ⟨back, ?_⟩
  rw [observed, State.setTarget_withFlags _ _ _ ready.second ready.notFlags.2]
  rfl

end

/-- Settles O32: with equal values the two instructions differ only in that `wcmpxchg` may fail. -/
theorem Atomic.compareExchange : Obligations.CompareExchange := by
  intro a b c s t u old expected new h ready hold hexpected hnew stored observed success failure okStored okOld okObserved
  have succeeds (fails : Bool) (same : (old == expected && !fails) = true) :
      finish s (Machine.compareExchange fails a b c s) = .next success :=
    congrArg (finish s) (compareExchange_of_same h ready hold hexpected hnew okStored same)
  have observes (fails : Bool) (same : (old == expected && !fails) = false) :
      finish s (Machine.compareExchange fails a b c s) = .next failure :=
    congrArg (finish s) (compareExchange_of_not_same h ready hold hexpected hnew okOld okObserved same)
  constructor
  · rintro rfl
    refine ⟨succeeds false (by simp), ?_⟩
    cases spurious : Config.spuriousFailure s.draws with
    | false => exact .inl (succeeds _ (by simp [spurious]))
    | true => exact .inr (observes _ (by simp [spurious]))
  · intro differ
    exact ⟨observes _ (by simp [differ]), observes _ (by simp [differ])⟩

/-! ### The fence and the flushes -/

/-- The control bits of `cr1` are those below its address part. -/
theorem field_low12_eq_zero_iff (w : Word) : field w 0 12 = 0 ↔ w.toNat % 4096 = 0 := by
  simp [← BitVec.toNat_inj]

/-- The check of a supervisor instruction passes in supervisor mode (48_supervisor.md R450). -/
theorem State.requireSupervisor_of_supervisor {s : State} (h : s.xm = false) : s.requireSupervisor = .ok () :=
  require_ok.mpr (by rw [h]; rfl)

/-- `flall` in supervisor mode (48_supervisor.md R457). -/
theorem flushAll_of_supervisor {s : State} (h : s.xm = false) :
    flushAll s =
      .ok { s with syncOrder := .globalFlush :: s.syncOrder, ptHistory := [], recent := s.allVisible, ip := s.ip + 2 } :=
  Result.bind_ok.mpr ⟨(), State.requireSupervisor_of_supervisor h, rfl⟩

/-- `pcfl` in supervisor mode flushes and then checks `cr1`, so that its page fault is taken from the flushed state
(48_supervisor.md R456). -/
theorem flushPageCaches_of_supervisor {s : State} (h : s.xm = false) :
    flushPageCaches s =
      let t := (s.sync .pageFlush).dropTranslations
      if field s.page 0 12 = 0 then .next { t with ip := s.ip + 2 } else .next (t.takeException (.pf s.bareFault)) := by
  simp only [flushPageCaches, State.requireSupervisor_of_supervisor h, h]
  by_cases clear : field s.page 0 12 = 0
  · rw [if_pos clear, clear]
    rfl
  · rw [if_neg clear, beq_eq_false_iff_ne.mpr clear]
    rfl

/-- Settles O33: no check precedes `fence`, and the control bits of `cr1` decide how `pcfl` ends. -/
theorem fenceAndFlushes : Obligations.FenceAndFlushes := by
  intro s visible
  refine ⟨rfl, fun supervisor => ⟨congrArg (finish s) (flushAll_of_supervisor supervisor), ?clear, ?flagged⟩⟩
  case clear =>
    intro clear
    exact (flushPageCaches_of_supervisor supervisor).trans (if_pos ((field_low12_eq_zero_iff _).mpr clear))
  case flagged =>
    intro flagged
    exact ⟨s.bareFault, (flushPageCaches_of_supervisor supervisor).trans
      (if_neg (mt (field_low12_eq_zero_iff _).mp flagged))⟩

end Sys2Proof.Machine
end

section
/-! PROOF. The condition codes, and the branches as transfers to a checked destination (46_branches.md). -/

namespace Sys2Proof.Machine

/-! ### Condition codes -/

/-- The condition code whose number is 15 less that of the given one (46_branches.md R392). -/
def negatedCond : Cond → Cond
  | .p => .np
  | .c => .nc
  | .v => .nv
  | .z => .nz
  | .lt => .ge
  | .le => .gt
  | .be => .a
  | .mi => .pl
  | .pl => .mi
  | .a => .be
  | .gt => .le
  | .ge => .lt
  | .nz => .z
  | .nv => .v
  | .nc => .c
  | .np => .p

/-- Codes whose numbers add up to 15 are paired by `negatedCond`. -/
theorem ofCode_fifteen_sub : ∀ k : BitVec 4, Cond.ofCode (15 - k) = negatedCond (Cond.ofCode k) := by decide

/-- A condition holds exactly when its partner does not. -/
theorem condHolds_negatedCond (cc : Cond) (t : Word) : condHolds (negatedCond cc) t = !condHolds cc t := by
  cases cc with
  | p | c | v | z | mi => rfl
  | lt => exact condHolds_ge t
  | le => exact condHolds_gt t
  | be => exact condHolds_a t
  | a | gt | ge => simp only [negatedCond, condHolds_a, condHolds_gt, condHolds_ge, Bool.not_not]
  | pl | nz | nv | nc | np => exact (Bool.not_not _).symm

/-- Settles O11: the table is the definition of `condHolds`, read at each number, and its lower half negates its upper half. -/
theorem conditionCodes : Obligations.ConditionCodes := fun t =>
  ⟨rfl, fun k => (congrArg (condHolds · t) (ofCode_fifteen_sub k)).trans (condHolds_negatedCond _ t)⟩

/-! ### Transfers to a checked destination -/

/-- The transfer that ends in `t`, once its destination `d` has passed its checks in the current mode: what every taken branch
comes to (46_branches.md R394 to R396). -/
def State.transfer (s : State) (d : Word) (t : State) : Result := do
  s.checkDestination s.xm d
  .ok t

section
variable {s t : State} {d : Word} {x : Result}

/-- A transfer to an even destination that may be fetched completes. -/
theorem finish_transfer_of_allowed (h : x = s.transfer d t) (allowed : s.branchAllowed s.xm d) : finish s x = .next t := by
  have checked : s.transfer d t = .ok t := Result.bind_ok.mpr ⟨(), State.checkDestination_ok.mpr allowed, rfl⟩
  rw [h, checked]
  rfl

/-- An odd destination is refused before it is translated (46_branches.md R394). -/
theorem State.checkDestination_of_odd (s : State) (xm : Bool) (odd : d.getLsbD 0 = true) :
    s.checkDestination xm d = .error (.exc (.xa d)) := by
  rw [State.checkDestination, odd]
  rfl

/-- The first byte of an even destination is validated for a fetch (46_branches.md R396). -/
theorem State.checkDestination_of_fault {xm : Bool} {f : PageFault} (even : d.getLsbD 0 = false)
    (fault : s.translateRange xm .fetch d 1 = .error f) : s.checkDestination xm d = .error (.exc (.pf f)) := by
  rw [State.checkDestination, even, fault]
  rfl

/-- A transfer to an odd destination takes XA, and one to an even destination that may not be fetched takes PF, from the state
before it (46_branches.md R394, R396). -/
theorem finish_transfer_of_refused (h : x = s.transfer d t) :
    (d.getLsbD 0 = true → finish s x = .next (s.takeException (.xa d))) ∧
      ∀ f, d.getLsbD 0 = false → s.translateRange s.xm .fetch d 1 = .error f →
        finish s x = .next (s.takeException (.pf f)) := by
  subst h
  refine ⟨fun odd => ?_, fun f even fault => ?_⟩
  · rw [State.transfer, State.checkDestination_of_odd s _ odd]
    rfl
  · rw [State.transfer, State.checkDestination_of_fault even fault]
    rfl

end

/-! ### The branches as transfers -/

section
variable (s : State)

/-- `jmp` (46_branches.md R401). -/
theorem jumpTo_eq_transfer (rel : Bool) (d : SizedImm) :
    jumpTo rel d s = s.transfer (s.destination rel d) (s.jump (s.destination rel d)) := rfl

/-- `ijmp`, `fret` and `ifjmp` (46_branches.md R405 to R407). -/
theorem indirectJump_eq_transfer (rel : Bool) (r : BitVec 4) :
    indirectJump rel r s = s.transfer (s.registerDest rel r) (s.jump (s.registerDest rel r)) := rfl

/-- `fcall` (46_branches.md R403). -/
theorem fastCallCore_eq_transfer (rel : Bool) (d : SizedImm) :
    fastCallCore rel d s =
      s.transfer (s.destination rel d) ((s.jump (s.destination rel d)).setR 14 (s.nipDest d)) := rfl

/-- `ifcall` (46_branches.md R409). -/
theorem indirectFastCall_eq_transfer (rel : Bool) :
    indirectFastCall rel s =
      s.transfer (s.registerDest rel 15) ((s.jump (s.registerDest rel 15)).setR 14 (s.ip + 2)) := rfl

variable {s}

/-- A conditional branch whose condition holds (46_branches.md R393). -/
theorem branchIf_of_holds {cc : Cond} (holds : condHolds cc s.flags = true) (rel : Bool) (d : SizedImm) :
    branchIf cc rel d s = s.transfer (s.destination rel d) (s.jump (s.destination rel d)) := if_pos holds

/-- A conditional branch whose condition fails moves `ip` past it, with no check (46_branches.md R393). -/
theorem branchIf_of_not_holds {cc : Cond} (fails : condHolds cc s.flags = false) (rel : Bool) (d : SizedImm) :
    branchIf cc rel d s = .ok { s with ip := s.nipDest d } := if_neg (ne_true_of_eq_false fails)

/-- A call whose return address may be pushed (46_branches.md R402, R408). -/
theorem State.callTo_eq_transfer {pas : List Nat} (h : s.translateRange s.xm .write (s.sp - 8) 8 = .ok pas) (d nip : Word) :
    s.callTo d nip = s.transfer d ((s.jump d).pushedAt pas nip) := by
  rw [State.callTo, State.validate, h]
  rfl

/-- `ret` whose return address may be read (46_branches.md R404). -/
theorem returnCore_eq_transfer {pas : List Nat} (h : s.translateRange s.xm .read s.sp 8 = .ok pas) :
    returnCore s = s.transfer (s.loadWord pas) ((s.jump (s.loadWord pas)).setR 7 (s.sp + 8)) := by
  rw [returnCore, State.validate, h]
  rfl

end

/-! ### Conditional branches -/

/-- The meaning of a conditional branch is read off its row of `conditionalBranch`; an instruction without a row is none
(46_branches.md R393). -/
theorem exec_of_conditionalBranch {i : Instr} {cc : Cond} {rel : Bool} {d : SizedImm}
    (h : conditionalBranch i = some (cc, rel, d)) (s : State) : exec i s = finish s (branchIf cc rel d s) := by
  unfold conditionalBranch at h
  split at h <;> cases h <;> rfl

/-- Settles O34: a conditional branch is `branchIf`, whose condition decides between the next instruction and a transfer. -/
theorem conditionalBranches : Obligations.ConditionalBranches := by
  intro i cc rel d s h
  rw [exec_of_conditionalBranch h s]
  exact ⟨fun fails => congrArg (finish s) (branchIf_of_not_holds fails rel d),
    fun holds => finish_transfer_of_allowed (branchIf_of_holds holds rel d)⟩

/-! ### Jumps, calls and returns -/

/-- Settles O35: each of them is a transfer to its destination. -/
theorem jumps : Obligations.Jumps := by
  intro s arrive called
  have jump (rel : Bool) (d : SizedImm) := finish_transfer_of_allowed (jumpTo_eq_transfer s rel d)
  have indirect (rel : Bool) (r : BitVec 4) := finish_transfer_of_allowed (indirectJump_eq_transfer s rel r)
  have fastCall (rel : Bool) (d : SizedImm) := finish_transfer_of_allowed (fastCallCore_eq_transfer s rel d)
  have indirectFast (rel : Bool) := finish_transfer_of_allowed (indirectFastCall_eq_transfer s rel)
  exact ⟨fun d => ⟨jump false d, jump true d⟩, fun r => ⟨indirect false r, indirect true r⟩,
    indirect false 14, indirect true 14, indirect false 15, indirect true 15,
    fun d => ⟨fastCall false d, fastCall true d⟩, indirectFast false, indirectFast true,
    fun _ readable => finish_transfer_of_allowed (returnCore_eq_transfer readable)⟩

/-- What a call leaves: the pushed return address, the one store that fetches at the destination may miss, and everything else
as it was (46_branches.md R402; 20_memory.md R160). -/
theorem State.jump_pushedAt_frame {s : State} {pas : List Nat}
    (h : s.translateRange s.xm .write (s.sp - 8) 8 = .ok pas) (d nip : Word) :
    let u := (s.jump d).pushedAt pas nip
    StoredAt s u pas (leBytes 8 nip.toNat) ∧ u.sp = s.sp - 8 ∧ SameRegistersBut s u [7] ∧ u.flags = s.flags ∧
      u.mode = s.mode ∧ Arrived s u d [pas] ∧ StoreFrame s u := by
  have stored : StoredAt s ((s.jump d).store pas (leBytes 8 nip.toNat)) pas (leBytes 8 nip.toNat) :=
    (s.jump d).storedAt_store h (leBytes_length _ _) (by decide)
  have stack : ((s.jump d).pushedAt pas nip).sp = s.sp - 8 := by simp [State.pushedAt, State.sp]
  exact ⟨stored, stack, s.sameRegistersBut_setR 7 (s.sp - 8), rfl, rfl, ⟨rfl, rfl, rfl⟩, rfl⟩

/-- Settles O36: `call` and `icall` push and go, and leave what `State.jump_pushedAt_frame` says. -/
theorem calls : Obligations.Calls := by
  intro s pas writable called
  have call (d nip : Word) (allowed : s.branchAllowed s.xm d) :
      ∃ u, finish s (s.callTo d nip) = .next u ∧ StoredAt s u pas (leBytes 8 nip.toNat) ∧ u.sp = s.sp - 8 ∧
        SameRegistersBut s u [7] ∧ u.flags = s.flags ∧ u.mode = s.mode ∧ Arrived s u d [pas] ∧ StoreFrame s u :=
    ⟨_, finish_transfer_of_allowed (State.callTo_eq_transfer writable d nip) allowed,
      State.jump_pushedAt_frame writable d nip⟩
  exact ⟨fun d => ⟨call (s.destination false d) (s.nipDest d), call (s.destination true d) (s.nipDest d)⟩,
    fun r => ⟨call (s.registerDest false r) (s.ip + 2), call (s.registerDest true r) (s.ip + 2)⟩⟩

/-! ### Refused destinations -/

/-- Settles O37: every taken branch is a transfer, whose destination is checked before anything changes. -/
theorem branchFaults : Obligations.BranchFaults := by
  intro s faults
  have jump (rel : Bool) (d : SizedImm) := finish_transfer_of_refused (jumpTo_eq_transfer s rel d)
  have indirect (rel : Bool) (r : BitVec 4) := finish_transfer_of_refused (indirectJump_eq_transfer s rel r)
  have fastCall (rel : Bool) (d : SizedImm) := finish_transfer_of_refused (fastCallCore_eq_transfer s rel d)
  have indirectFast (rel : Bool) := finish_transfer_of_refused (indirectFastCall_eq_transfer s rel)
  refine ⟨?conditional,
    fun d => ⟨jump false d, jump true d, fastCall false d, fastCall true d⟩,
    fun r => ⟨indirect false r, indirect true r⟩,
    indirect false 14, indirect true 14, indirect false 15, indirect true 15, indirectFast false, indirectFast true,
    ?pushing, fun _ readable => finish_transfer_of_refused (returnCore_eq_transfer readable)⟩
  case conditional =>
    intro i cc rel d h holds
    simp only [faults, exec_of_conditionalBranch h s]
    exact finish_transfer_of_refused (branchIf_of_holds holds rel d)
  case pushing =>
    intro pas writable
    have call (d nip : Word) := finish_transfer_of_refused (State.callTo_eq_transfer writable d nip)
    exact ⟨fun d => ⟨call (s.destination false d) (s.nipDest d), call (s.destination true d) (s.nipDest d)⟩,
      fun r => ⟨call (s.registerDest false r) (s.ip + 2), call (s.registerDest true r) (s.ip + 2)⟩⟩

end Sys2Proof.Machine
end

section
/-! PROOF. Forcing control transfers: mode changes, supervisor calls and returns, and software interrupts
(47_forcing_transfers.md). -/

namespace Sys2Proof.Machine

/-! ### The check of a mode value -/

/-- A mode value has no undefined bit exactly when it lies within XM and XMM (10_state.md R40, R42). -/
theorem undefinedBits_eq_zero_iff (m : Word) :
    m &&& ~~~(3#64 <<< 32) = 0 ↔ ¬∃ k, k < 64 ∧ k ≠ 32 ∧ k ≠ 33 ∧ m.getLsbD k = true := by
  have mask : ∀ k < 64, (~~~(3#64 <<< 32)).getLsbD k = (decide (k ≠ 32) && decide (k ≠ 33)) := by decide
  constructor
  · rintro clear ⟨k, hk, notXm, notXmm, set⟩
    have bit : (m &&& ~~~(3#64 <<< 32)).getLsbD k = true := by
      rw [BitVec.getLsbD_and, set, mask k hk]
      simp [notXm, notXmm]
    rw [clear] at bit
    simp at bit
  · intro none
    apply BitVec.eq_of_getLsbD_eq
    intro k hk
    refine Eq.trans ?_ BitVec.getLsbD_zero.symm
    rw [BitVec.getLsbD_and, mask k hk, Bool.eq_false_iff]
    intro set
    simp only [Bool.and_eq_true, decide_eq_true_eq] at set
    obtain ⟨set, notXm, notXmm⟩ := set
    exact none ⟨k, hk, notXm, notXmm, set⟩

section
variable {s : State} {m : Word}

/-- The two values that `mode` may hold pass, where program mode keeps its upper half (47_forcing_transfers.md R424). -/
theorem State.checkMode_of_legal (legal : m = 0 ∨ m = 3#64 <<< 32) (upper : s.xm = true → m >>> 32 = s.mode >>> 32) :
    s.checkMode m = .ok () := by
  have defined : (m &&& ~~~(3#64 <<< 32) == 0) = true := by rcases legal with rfl | rfl <;> decide
  have mirrored : (m.getLsbD 32 == m.getLsbD 33) = true := by rcases legal with rfl | rfl <;> decide
  have kept : (!s.xm || m >>> 32 == s.mode >>> 32) = true := by
    cases program : s.xm with
    | false => rfl
    | true => simpa using upper program
  simp only [State.checkMode, Result.bind_ok, require_ok]
  exact ⟨(), defined, (), by rw [mirrored, Bool.or_true], kept⟩

/-- An undefined bit raises UND, before the other two checks (47_forcing_transfers.md R424, decision D39). -/
theorem State.checkMode_of_undefined (h : m &&& ~~~(3#64 <<< 32) ≠ 0) : s.checkMode m = raise .und := by
  rw [State.checkMode, beq_eq_false_iff_ne.mpr h]
  rfl

/-- In supervisor mode XM and XMM that differ raise PROT (47_forcing_transfers.md R424). -/
theorem State.checkMode_of_not_mirrored (defined : m &&& ~~~(3#64 <<< 32) = 0) (supervisor : s.xm = false)
    (h : m.getLsbD 32 ≠ m.getLsbD 33) : s.checkMode m = raise .prot := by
  rw [State.checkMode, defined, supervisor, beq_eq_false_iff_ne.mpr h]
  rfl

/-- In program mode a changed upper half raises PROT (47_forcing_transfers.md R424). -/
theorem State.checkMode_of_upper_changed (defined : m &&& ~~~(3#64 <<< 32) = 0) (program : s.xm = true)
    (h : m >>> 32 ≠ s.mode >>> 32) : s.checkMode m = raise .prot := by
  rw [State.checkMode, defined, program, beq_eq_false_iff_ne.mpr h]
  rfl

end

/-- A computation whose first stage raises an exception raises it. -/
theorem Result.bind_raise {α β : Type} {x : Except Trap α} {e : Exc} (h : x = raise e) (f : α → Except Trap β) :
    (x >>= f) = raise e := by
  rw [h]
  rfl

/-- Settles O39: each of them checks the mode value before its first store or pop. -/
theorem modeChecks : Obligations.ModeChecks := by
  intro s m i loads undefinedBit
  have raises (e : Exc) (refused : s.checkMode m = raise e) : exec i s = .next (s.takeException e) := by
    rcases loads with ⟨⟨d, v, form⟩, rfl⟩ | ⟨rfl, pas, readable, rfl⟩
    · have jump (rel : Bool) : finish s (jumpSetMode rel d s) = .next (s.takeException e) :=
        congrArg (finish s) (Result.bind_raise refused _)
      have call (rel : Bool) : finish s (callSetMode v rel d s) = .next (s.takeException e) :=
        congrArg (finish s) (Result.bind_raise refused _)
      rcases form with rfl | rfl | rfl | rfl
      · exact jump false
      · exact jump true
      · exact call false
      · exact call true
    · have popped : returnRestoreMode s = raise e := by
        rw [returnRestoreMode, State.validate_ok.mpr readable]
        exact Result.bind_raise refused _
      exact congrArg (finish s) popped
  have defined (h : ¬undefinedBit) : m &&& ~~~(3#64 <<< 32) = 0 := (undefinedBits_eq_zero_iff m).mpr h
  exact ⟨fun h => raises .und (State.checkMode_of_undefined fun clear => (undefinedBits_eq_zero_iff m).mp clear h),
    fun h supervisor differ => raises .prot (State.checkMode_of_not_mirrored (defined h) supervisor differ),
    fun h program changed => raises .prot (State.checkMode_of_upper_changed (defined h) program changed)⟩

/-! ### What a transfer with stores leaves -/

/-- A store puts what it replaced before what the earlier stores replaced. -/
theorem State.store_recent_old (s : State) (pas : List Nat) (bs : List Byte) :
    (s.store pas bs).recent.map StoreRecord.old = s.replaced pas :: s.recent.map StoreRecord.old := rfl

/-- What a store replaces is not touched by a store elsewhere. -/
theorem State.replaced_store_of_disjoint (s : State) {pas qas : List Nat} (h : pas.Disjoint qas) (bs : List Byte) :
    (s.store qas bs).replaced pas = s.replaced pas :=
  List.map_congr_left fun a ha => by rw [s.get_store_of_notMem qas bs a (h ha)]

section
variable {s t w : State} {xm : Bool} {kind : Access} {addr : Word} {pas : List Nat} {n : Nat}

/-- Two stores that fill a translated range of at most a page, the part from byte `k` up first. -/
theorem State.storedOnly_two_stores (h : w.translateRange xm kind addr n = .ok pas) (hn : n ≤ 4096) {k : Nat}
    {bs cs : List Byte} (hb : bs.length = k) (hc : k + cs.length = n) :
    let t := (s.store (pas.drop k) cs).store (pas.take k) bs
    StoredOnly s t pas (bs ++ cs) ∧ t.recent.map StoreRecord.old =
      [pas.take k, pas.drop k].map s.replaced ++ s.recent.map StoreRecord.old := by
  intro t
  have length : pas.length = n := State.translateRange_length h
  have split : pas.take k ++ pas.drop k = pas := List.take_append_drop k pas
  obtain ⟨lowNodup, highNodup, disjoint⟩ := List.nodup_append'.mp (split.symm ▸ State.translateRange_nodup h hn)
  have low : t.bytesAt (pas.take k) = bs := State.bytesAt_store _ _ _ lowNodup (by rw [List.length_take]; omega)
  have high : t.bytesAt (pas.drop k) = cs :=
    calc t.bytesAt (pas.drop k)
        = (s.store (pas.drop k) cs).bytesAt (pas.drop k) :=
          List.map_congr_left fun a ha => State.get_store_of_notMem _ _ _ _ fun ha' => disjoint ha' ha
      _ = cs := State.bytesAt_store _ _ _ highNodup (by rw [List.length_drop]; omega)
  have bytes : t.bytesAt pas = bs ++ cs :=
    calc t.bytesAt pas
        = t.bytesAt (pas.take k ++ pas.drop k) := by rw [split]
      _ = t.bytesAt (pas.take k) ++ t.bytesAt (pas.drop k) := List.map_append
      _ = bs ++ cs := by rw [low, high]
  have others (a : Nat) (ha : a ∉ pas) : t.mem.get a = s.mem.get a :=
    (State.get_store_of_notMem _ _ _ _ fun ha' => ha (List.mem_of_mem_take ha')).trans
      (s.get_store_of_notMem _ _ _ fun ha' => ha (List.mem_of_mem_drop ha'))
  refine ⟨⟨⟨bytes, others⟩, rfl⟩, ?_⟩
  rw [State.store_recent_old, State.store_recent_old, s.replaced_store_of_disjoint disjoint]
  rfl

/-- What a transfer to `d` leaves that makes its own stores, lowers the stack pointer and loads `mode`: the fetches at the
destination may miss its own stores only (20_memory.md R160). -/
theorem StoredOnly.transfer {d sp m : Word} {bs : List Byte} {stores : List (List Nat)}
    (h : StoredOnly (s.jump d) t pas bs) (own : t.recent.map StoreRecord.old = stores.map s.replaced) :
    let u := { t.setR 7 sp with mode := m }
    StoredAt s u pas bs ∧ u.sp = sp ∧ SameRegistersBut s u [7] ∧ u.flags = s.flags ∧ u.mode = m ∧ Arrived s u d stores ∧
      StoreFrame s u := by
  obtain ⟨stored, stack, others, -, flags, -, view, -⟩ := h.push sp d
  have arrived : t.ip = d := by rw [h.rest]; rfl
  have frame : StoreFrame s { t.setR 7 sp with mode := m } := by rw [h.rest]; rfl
  exact ⟨stored, stack, others, flags, rfl, ⟨arrived, view, own⟩, frame⟩

end

/-! ### Transfers that load mode -/

section
variable {s : State} {rel : Bool} {d : SizedImm} {pas : List Nat}

/-- `jsm` with its checks passed (47_forcing_transfers.md R421). -/
theorem jumpSetMode_of_checks (legal : s.checkMode (s.r 0) = .ok ())
    (allowed : s.branchAllowed ((s.r 0).getLsbD 32) (s.destination rel d)) :
    jumpSetMode rel d s = .ok { s.jump (s.destination rel d) with mode := s.r 0 } := by
  simp only [jumpSetMode, Result.bind_ok]
  exact ⟨(), legal, (), State.checkDestination_ok.mpr allowed, rfl⟩

/-- `callsm` that saves the return address alone, with its checks passed (47_forcing_transfers.md R422). -/
theorem callSetMode_of_checks (legal : s.checkMode (s.r 0) = .ok ())
    (writable : s.translateRange s.xm .write (s.sp - 8) 8 = .ok pas)
    (allowed : s.branchAllowed ((s.r 0).getLsbD 32) (s.destination rel d)) :
    callSetMode false rel d s =
      .ok { ((s.jump (s.destination rel d)).store pas (leBytes 8 (s.nipDest d).toNat)).setR 7 (s.sp - 8) with
            mode := s.r 0 } := by
  have whole : pas.take 8 = pas := List.take_of_length_le (State.translateRange_length writable).le
  simp only [callSetMode, Result.bind_ok]
  refine ⟨(), legal, pas, State.validate_ok.mpr writable, (), State.checkDestination_ok.mpr allowed, ?_⟩
  rw [whole]
  rfl

/-- `callsm` that saves the old mode too, with its checks passed: both stores go where they were validated
(47_forcing_transfers.md R422; log 42). -/
theorem callSetMode_with_mode_of_checks (legal : s.checkMode (s.r 0) = .ok ())
    (writable : s.translateRange s.xm .write (s.sp - 16) 16 = .ok pas)
    (allowed : s.branchAllowed ((s.r 0).getLsbD 32) (s.destination rel d)) :
    callSetMode true rel d s =
      .ok { (((s.jump (s.destination rel d)).store (pas.drop 8) (leBytes 8 s.mode.toNat)).store (pas.take 8)
              (leBytes 8 (s.nipDest d).toNat)).setR 7 (s.sp - 16) with mode := s.r 0 } := by
  simp only [callSetMode, Result.bind_ok]
  exact ⟨(), legal, pas, State.validate_ok.mpr writable, (), State.checkDestination_ok.mpr allowed, rfl⟩

/-- `retrsm` with its checks passed (47_forcing_transfers.md R423). -/
theorem returnRestoreMode_of_checks (readable : s.translateRange s.xm .read s.sp 16 = .ok pas)
    (legal : s.checkMode (s.loadSlot pas 1) = .ok ())
    (allowed : s.branchAllowed ((s.loadSlot pas 1).getLsbD 32) (s.loadSlot pas 0)) :
    returnRestoreMode s =
      .ok { (s.jump (s.loadSlot pas 0)).setR 7 (s.sp + 16) with mode := s.loadSlot pas 1 } := by
  simp only [returnRestoreMode, Result.bind_ok]
  exact ⟨pas, State.validate_ok.mpr readable, (), legal, (), State.checkDestination_ok.mpr allowed, rfl⟩

end

/-- Settles O38: a legal mode value passes its check, and a transfer that stores leaves what `StoredOnly.transfer` says. -/
theorem modeTransfers : Obligations.ModeTransfers := by
  intro s m legal upper jumped called
  have checked : s.checkMode m = .ok () := State.checkMode_of_legal legal upper
  constructor
  · rintro rfl d return_ both
    have jump (rel : Bool) (allowed : s.branchAllowed ((s.r 0).getLsbD 32) (s.destination rel d)) :=
      congrArg (finish s) (jumpSetMode_of_checks checked allowed)
    have call (i : Instr) (rel : Bool) (meaning : exec i s = finish s (callSetMode false rel d s)) :
        called i (s.destination rel d) 8 return_ fun pas => [pas] := fun pas writable allowed =>
      ⟨_, meaning.trans (congrArg (finish s) (callSetMode_of_checks checked writable allowed)),
        StoredOnly.transfer ⟨State.storedAt_store _ writable (leBytes_length _ _) (by decide), rfl⟩ rfl⟩
    have callWithMode (i : Instr) (rel : Bool) (meaning : exec i s = finish s (callSetMode true rel d s)) :
        called i (s.destination rel d) 16 both fun pas => [pas.take 8, pas.drop 8] := fun pas writable allowed =>
      have ⟨stored, own⟩ := State.storedOnly_two_stores (s := s.jump (s.destination rel d)) writable (by decide)
        (leBytes_length 8 (s.nipDest d).toNat) (cs := leBytes 8 s.mode.toNat) rfl
      ⟨_, meaning.trans (congrArg (finish s) (callSetMode_with_mode_of_checks checked writable allowed)),
        stored.transfer own⟩
    exact ⟨jump false, jump true, call _ false rfl, call _ true rfl, callWithMode _ false rfl, callWithMode _ true rfl⟩
  · rintro pas readable rfl allowed
    exact congrArg (finish s) (returnRestoreMode_of_checks readable checked allowed)

/-! ### Supervisor calls -/

/-- Writing a general register with its own value changes nothing. -/
theorem State.setR_self (s : State) (i : BitVec 4) : s.setR i (s.r i) = s := by
  simp [State.setR, State.r]

/-- The registers that the fast supervisor call writes (47_forcing_transfers.md R431). -/
theorem State.setR_fastCall (s : State) (r12 r7 r13 r14 : Word) :
    let t := (((s.setR 12 r12).setR 7 r7).setR 13 r13).setR 14 r14
    t.r 12 = r12 ∧ t.sp = r7 ∧ t.r 13 = r13 ∧ t.r 14 = r14 ∧ SameRegistersBut s t [7, 12, 13, 14] := by
  refine ⟨by simp, by simp [State.sp], by simp, by simp, fun j hj => ?_⟩
  simp only [List.mem_cons, List.not_mem_nil, or_false, not_or] at hj
  obtain ⟨not7, not12, not13, not14⟩ := hj
  simp only [State.setR_r, eq_comm (b := j), not7, not12, not13, not14, if_false]

/-- The stack pointer of the supervisor (47_forcing_transfers.md R431, R432). -/
def State.callStack (s : State) : Word := if s.scsp = 0 then s.sp else s.scsp

section
variable {s : State}

/-- `scall` in supervisor mode, or with `scdp` 0 (47_forcing_transfers.md R430). -/
theorem supervisorCall_of_refused (h : s.xm = false ∨ s.scdp = 0) : supervisorCall s = raise .prot := by
  rcases h with supervisor | disabled
  · rw [supervisorCall, supervisor]
    rfl
  · rw [supervisorCall, disabled]
    cases s.xm <;> rfl

/-- `scall` in program mode with `scdp` set: `sccr.fc` selects the form (47_forcing_transfers.md R430). -/
theorem supervisorCall_of_program (program : s.xm = true) (enabled : s.scdp ≠ 0) :
    supervisorCall s = if s.fastCalls then fastSupervisorCall s else stackSupervisorCall s := by
  have set : (s.scdp != 0) = true := bne_iff_ne.mpr enabled
  rw [supervisorCall, program, set]
  rfl

/-- The fast form with its destination checked (47_forcing_transfers.md R431). -/
theorem fastSupervisorCall_of_allowed (allowed : s.branchAllowed false s.scdp) :
    fastSupervisorCall s =
      .ok { ((((s.jump s.scdp).setR 12 s.sp).setR 7 s.callStack).setR 13 s.mode).setR 14 (s.ip + 2) with
            mode := supervisorMode s.mode } := by
  have stack : (if s.scsp = 0 then (s.jump s.scdp).setR 12 s.sp else ((s.jump s.scdp).setR 12 s.sp).setR 7 s.scsp) =
      ((s.jump s.scdp).setR 12 s.sp).setR 7 s.callStack := by
    unfold State.callStack
    split
    · exact (State.setR_self _ 7).symm.trans (by simp [State.sp])
    · rfl
  simp only [fastSupervisorCall, Result.bind_ok, stack]
  exact ⟨(), State.checkDestination_ok.mpr allowed, rfl⟩

/-- The stack form with its checks passed (47_forcing_transfers.md R432, decision D40). -/
theorem stackSupervisorCall_of_checks {pas : List Nat}
    (writable : s.translateRange false .write (s.callStack - 32) 32 = .ok pas) (allowed : s.branchAllowed false s.scdp) :
    stackSupervisorCall s =
      .ok { ((s.jump s.scdp).store pas (wordsBytes (s.frame (s.ip + 2)))).setR 7 (s.callStack - 32) with
            mode := supervisorMode s.mode } := by
  simp only [stackSupervisorCall, Result.bind_ok]
  exact ⟨pas, State.validateSupervisor_ok.mpr writable, (), State.checkDestination_ok.mpr allowed, rfl⟩

end

/-- Settles O40: past its two PROT checks, `scall` is the form that `sccr.fc` selects. -/
theorem Transfer.supervisorCall : Obligations.SupervisorCall := by
  refine ⟨fun s refused => congrArg (finish s) (supervisorCall_of_refused refused), ?_⟩
  intro s program enabled allowed stack clear
  have form := supervisorCall_of_program program enabled
  constructor
  · intro fast
    have answer := (form.trans (if_pos fast)).trans (fastSupervisorCall_of_allowed allowed)
    obtain ⟨r12, r7, r13, r14, others⟩ := (s.jump s.scdp).setR_fastCall s.sp s.callStack s.mode (s.ip + 2)
    exact ⟨_, congrArg (finish s) answer, r12, r7, r13, r14, others, rfl⟩
  · intro slow pas writable
    have answer := (form.trans (if_neg (ne_true_of_eq_false slow))).trans (stackSupervisorCall_of_checks writable allowed)
    exact ⟨_, congrArg (finish s) answer,
      StoredOnly.transfer ⟨State.storedAt_store _ writable (wordsBytes_length _) (by decide), rfl⟩ rfl⟩

/-! ### Software interrupts -/

section
variable {s : State} {i : BitVec 4}

/-- `int` while disabled goes to the next instruction (47_forcing_transfers.md R435, decision D29). -/
theorem softwareInterrupt_of_disabled (disabled : s.ie = false) : softwareInterrupt i s = .ok (s.jump (s.ip + 2)) := by
  rw [softwareInterrupt, disabled]
  rfl

/-- `int` of an entry beyond the table (47_forcing_transfers.md R435). -/
theorem softwareInterrupt_of_outOfBounds (enabled : s.ie = true)
    (beyond : s.tableEntry (16 + i.toNat) = .error .outOfBounds) : softwareInterrupt i s = raise .prot := by
  rw [softwareInterrupt, enabled, beyond]
  rfl

/-- `int` of an entry of the table: PX decides whether program mode may use it (60_exceptions.md R502). -/
theorem softwareInterrupt_of_entry {e : TableEntry} (enabled : s.ie = true)
    (entry : s.tableEntry (16 + i.toNat) = .ok e) :
    softwareInterrupt i s =
      if s.xm && !e.px then raise .prot else .ok (s.deliver (16 + i.toNat) (s.ip + 2)) := by
  rw [softwareInterrupt, enabled, entry]
  rfl

end

/-- Settles O41: the table entry decides between PROT and the delivery. -/
theorem Transfer.softwareInterrupt : Obligations.SoftwareInterrupt := by
  intro s i
  refine ⟨fun disabled => congrArg (finish s) (softwareInterrupt_of_disabled disabled),
    fun enabled beyond => congrArg (finish s) (softwareInterrupt_of_outOfBounds enabled beyond), ?_⟩
  intro e enabled entry
  have answer := softwareInterrupt_of_entry enabled entry
  constructor
  · rintro ⟨program, closed⟩
    exact congrArg (finish s) (answer.trans (if_pos (by simp [program, closed])))
  · intro opened
    exact congrArg (finish s) (answer.trans (if_neg (by rcases opened with h | h <;> simp [h])))

/-! ### Returns from the supervisor -/

section
variable {s : State}

/-- `reti` in supervisor mode (47_forcing_transfers.md R441). -/
theorem interruptReturn_of_supervisor (h : s.xm = false) : interruptReturn s = s.returnFromException := by
  rw [interruptReturn, State.requireSupervisor_of_supervisor h]
  rfl

/-- `scret` in supervisor mode with `sccr.fc` clear (47_forcing_transfers.md R440). -/
theorem supervisorReturn_of_frame (h : s.xm = false) (slow : s.sccr.getLsbD 1 = false) :
    supervisorReturn s = s.returnFromException := by
  rw [supervisorReturn, State.requireSupervisor_of_supervisor h, State.fastCalls, slow]
  rfl

/-- `scret` in supervisor mode with `sccr.fc` set (47_forcing_transfers.md R440). -/
theorem supervisorReturn_of_fast (h : s.xm = false) (fast : s.sccr.getLsbD 1 = true)
    (allowed : s.branchAllowed ((s.r 13).getLsbD 32) (s.r 14)) :
    supervisorReturn s = .ok { (s.jump (s.r 14)).setR 7 (s.r 12) with mode := s.loadedMode (s.r 13) } := by
  refine Result.bind_ok.mpr ⟨(), State.requireSupervisor_of_supervisor h, ?_⟩
  rw [State.fastCalls, fast, if_pos rfl]
  exact Result.bind_ok.mpr ⟨(), State.checkDestination_ok.mpr allowed, rfl⟩

end

/-- Settles O45: `reti` and the slow `scret` are one return through the frame, and a legal mode value is loaded as it is. -/
theorem exceptionReturn : Obligations.ExceptionReturn := by
  intro s supervisor loaded
  constructor
  · intro pas readable m allowed
    have answer := State.returnFromException_ok.mpr ⟨pas, readable, allowed, rfl⟩
    exact ⟨_, congrArg (finish s) ((interruptReturn_of_supervisor supervisor).trans answer),
      fun slow => congrArg (finish s) ((supervisorReturn_of_frame supervisor slow).trans answer),
      s.loadedMode_legal m, rfl⟩
  · intro fast allowed
    exact ⟨_, congrArg (finish s) (supervisorReturn_of_fast supervisor fast allowed), s.loadedMode_legal (s.r 13), rfl⟩

end Sys2Proof.Machine
end

section
/-! PROOF. The supervisor instructions in program mode, and the machine-specific opcodes (48_supervisor.md R450, R451;
60_exceptions.md R521). -/

namespace Sys2Proof.Machine

variable {s : State}

/-- The check of a supervisor instruction fails in program mode (48_supervisor.md R450). -/
theorem State.requireSupervisor_of_program (h : s.xm = true) : s.requireSupervisor = raise .prot := by
  rw [State.requireSupervisor, h]
  rfl

/-- `pcfl` in program mode flushes nothing (48_supervisor.md R450, R456). -/
theorem flushPageCaches_of_program (h : s.xm = true) : flushPageCaches s = .next (s.takeException .prot) := by
  simp only [flushPageCaches, h, if_true]
  exact congrArg (finish s) (Result.bind_raise (State.requireSupervisor_of_program h) _)

/-- Each supervisor instruction makes its check before any other (48_supervisor.md R450, decision D36). -/
theorem exec_of_privileged {i : Instr} (hi : privileged i = true) (h : s.xm = true) :
    exec i s = .next (s.takeException .prot) := by
  have refused (f : Unit → Result) : finish s (s.requireSupervisor >>= f) = .next (s.takeException .prot) :=
    congrArg (finish s) (Result.bind_raise (State.requireSupervisor_of_program h) f)
  cases i with
  | pcfl => exact flushPageCaches_of_program h
  | halt | flall | dflush | iflush | ioIn | ioOut | storegf | rstregf | scret | reti => exact refused _
  | _ => cases hi

/-- The meaning of a machine-specific instruction is read off its opcode (48_supervisor.md R451). -/
theorem exec_of_machineOpcode {i : Instr} {op : BitVec 12} (h : machineOpcode i = some op) (s : State) :
    exec i s = machineInstruction op s := by
  unfold machineOpcode at h
  split at h <;> cases h <;> rfl

/-- A machine-specific opcode that the machine does not provide (48_supervisor.md R451, decision D19). -/
theorem machineInstruction_of_absent {op : BitVec 12} (h : op ∉ s.params.machineInsn) :
    machineInstruction op s = .next (s.takeException .und) := by
  have absent : s.params.machineInsn.contains op = false := by simpa using h
  rw [machineInstruction, absent]
  rfl

/-- A machine-specific opcode that the machine provides: PROT in program mode, and otherwise the machine's effect
(48_supervisor.md R451, 30_encoding.md R203). -/
theorem machineInstruction_of_provided {op : BitVec 12} (h : op ∈ s.params.machineInsn) :
    machineInstruction op s =
      if s.xm then .next (s.takeException .prot) else .refused (.machineSpecificInstruction op.toNat) := by
  have provided : s.params.machineInsn.contains op = true := by simpa using h
  rw [machineInstruction, provided]
  cases s.xm <;> rfl

/-- Settles O46: the check of a supervisor instruction comes first, and the machine's list decides about its own opcodes. -/
theorem supervisorOpcodes : Obligations.SupervisorOpcodes := by
  refine ⟨fun i s => exec_of_privileged, fun i op s h => ?_⟩
  rw [exec_of_machineOpcode h s]
  exact ⟨machineInstruction_of_absent,
    fun provided program => (machineInstruction_of_provided provided).trans (if_pos program),
    fun provided supervisor => (machineInstruction_of_provided provided).trans (if_neg (ne_true_of_eq_false supervisor))⟩

end Sys2Proof.Machine
end

section
/-! PROOF. Program mode and the supervisor's state: every instruction that starts in program mode leaves that mode, or keeps what
only the supervisor may change (60_exceptions.md R520, R522). -/

namespace Sys2Proof.Machine

/-! ### The supervisor's state -/

/-- What only the supervisor may change: its registers, the upper half of `mode`, the device words and the halted flag
(60_exceptions.md R520; 10_state.md R42). -/
def State.supervised (s : State) :
    List Word × Vector Word 7 × Vector Word 128 × Vector Word 128 × Vector (List Word) 128 × Bool :=
  ([s.cr0, s.page, s.flprotect, s.scdp, s.scsp, s.sccr, s.itabp, s.ciread, s.fcode, s.pfcharp, s.mode >>> 32],
    s.msr, s.enableWord, s.loadPointer, s.startUp, s.halted)

/-- States with the same supervised part differ in nothing that the statement of isolation names. -/
theorem SameSupervisor.of_supervised {s t : State} (h : t.supervised = s.supervised) :
    SameSupervisor s t ∧ t.mode >>> 32 = s.mode >>> 32 := by
  simp only [State.supervised, Prod.mk.injEq, List.cons.injEq, and_true] at h
  obtain ⟨⟨cr0, page, flprotect, scdp, scsp, sccr, itabp, ciread, fcode, pfcharp, mode⟩, msr, enableWord, loadPointer,
    startUp, halted⟩ := h
  exact ⟨⟨cr0, page, flprotect, scdp, scsp, sccr, itabp, ciread, fcode, pfcharp, msr, enableWord, loadPointer, startUp,
    halted⟩, mode⟩

section
variable (s : State)

@[simp] theorem State.supervised_setR (i : BitVec 4) (v : Word) : (s.setR i v).supervised = s.supervised := rfl
@[simp] theorem State.supervised_withFlags (fl : Word) : (s.withFlags fl).supervised = s.supervised := rfl
@[simp] theorem State.supervised_advance (nip : Word) : (s.advance nip).supervised = s.supervised := rfl
@[simp] theorem State.supervised_jump (d : Word) : (s.jump d).supervised = s.supervised := rfl
@[simp] theorem State.supervised_store (pas : List Nat) (bs : List Byte) :
    (s.store pas bs).supervised = s.supervised := rfl
@[simp] theorem State.supervised_writeFlags (v : Word) : (s.writeFlags v).supervised = s.supervised := rfl
@[simp] theorem State.supervised_loadGprs (pas : List Nat) : (s.loadGprs pas).supervised = s.supervised := by
  simp only [State.supervised, State.loadGprs]

@[simp] theorem State.supervised_storeBlocks (n : Nat) (pas : List Nat) (bs : List Byte) :
    (s.storeBlocks n pas bs).supervised = s.supervised := by
  rw [State.storeBlocks_rest]
  rfl

/-- Flags that an instruction may leave alone. -/
@[simp] theorem State.supervised_withFlagsUnless (nf : Bool) (fl : Word) :
    (if nf then s else s.withFlags fl).supervised = s.supervised := by
  cases nf <;> rfl

end

/-- A new `mode` with the upper half of the old one (10_state.md R42). -/
theorem State.supervised_withMode {s : State} {m : Word} (h : m >>> 32 = s.mode >>> 32) :
    { s with mode := m }.supervised = s.supervised := by
  simp only [State.supervised, h]

/-! ### Destinations in program mode -/

/-- A place that is no supervisor register. -/
def Place.unprivileged : Place → Prop
  | .reg r _ => regClass r ≠ .supervisor
  | _ => True

/-- A destination that is no supervisor register. -/
def Target.unprivileged : Target → Prop
  | .reg r _ => regClass r ≠ .supervisor
  | _ => True

/-- The numbers of the supervisor registers (10_state.md R21). -/
theorem regClass_eq_supervisor_iff (r : BitVec 8) :
    regClass r = .supervisor ↔
      (128 ≤ r.toNat ∧ r.toNat ≤ 135) ∨ r.toNat = 144 ∨ r.toNat = 145 ∨ (148 ≤ r.toNat ∧ r.toNat ≤ 154) := by
  simp only [regClass]
  split_ifs <;> simp <;> omega

section
variable {s t u : State} {ops : List Operand} {a : Operand} {p : Place} {d : Target} {v : Word}

/-- In program mode an operand that passes its checks names no supervisor register (30_encoding.md R186). -/
theorem State.place_unprivileged (program : s.xm = true) (h : s.checkOperands ops = .ok ()) (ha : a ∈ ops) (nip : Word) :
    (s.place nip a).unprivileged := by
  simp only [State.checkOperands, Result.bind_ok, require_ok, program, Bool.true_and, Bool.not_eq_true',
    List.any_eq_false] at h
  obtain ⟨-, -, unprotected⟩ := h
  cases a with
  | reg z r =>
    intro supervisor
    exact unprotected _ ha (by simp only [State.protectedOperand, supervisor])
  | short rel => cases rel <;> trivial
  | long rel => cases rel <;> trivial
  | ind | memRef => trivial

/-- Opening a destination keeps what it stands for. -/
theorem State.openTarget_unprivileged (hp : p.unprivileged) (h : s.openTarget p = .ok d) : d.unprivileged := by
  rcases State.openTarget_ok h with ⟨r, z, rfl, rfl⟩ | ⟨addr, z, pas, rfl, -, rfl⟩
  · exact hp
  · trivial

/-- A number that is no machine-specific register replaces none of them. -/
theorem setMsr_of_not_msr (msr : Vector Word 7) {n : Nat} (v : Word) (h : ¬(148 ≤ n ∧ n ≤ 154)) : setMsr msr n v = msr := by
  unfold setMsr
  split
  · exact Vector.setIfInBounds_eq_of_size_le (by omega)
  · rfl

/-- A write to any other register leaves the supervisor's state (10_state.md R21). -/
theorem State.supervised_writeReg (t : State) {r : BitVec 8} (h : regClass r ≠ .supervisor) (v : Word) :
    (t.writeReg r v).supervised = t.supervised := by
  rw [ne_eq, regClass_eq_supervisor_iff] at h
  unfold State.writeReg
  split
  · rfl
  · split
    case h_1 => exact t.supervised_writeFlags v
    case h_12 =>
      have msr : setMsr t.msr r.toNat v = t.msr := setMsr_of_not_msr t.msr v fun named => h (.inr (.inr (.inr named)))
      simp only [msr]
    all_goals
      next e => exact absurd (show _ by rw [e]; decide) h

theorem State.supervised_setTarget (t : State) (h : d.unprivileged) (v : Word) :
    (t.setTarget v d).supervised = t.supervised := by
  cases d with
  | reg r z => exact t.supervised_writeReg h v
  | mem pas => exact t.supervised_store _ _

theorem State.supervised_writeTarget (h : d.unprivileged) (hu : s.writeTarget d v = .ok u) :
    u.supervised = s.supervised := by
  obtain ⟨-, rfl⟩ := State.writeTarget_ok.mp hu
  exact s.supervised_setTarget h v

/-- A destination operand of an instruction in program mode, once opened. -/
theorem State.target_unprivileged (program : s.xm = true) (h : s.checkOperands ops = .ok ()) {nip : Word}
    (ho : s.openTarget (s.place nip a) = .ok d) (ha : a ∈ ops := by simp) : d.unprivileged :=
  State.openTarget_unprivileged (State.place_unprivileged program h ha nip) ho

end

/-! ### Entering the supervisor -/

theorem supervisorMode_xm (m : Word) : (supervisorMode m).getLsbD 32 = false := by
  simp [supervisorMode]

section
variable {s t : State}

/-- A handler is entered in supervisor mode (60_exceptions.md R504). -/
theorem State.xm_enter {n : Nat} {frame : List Word} (h : s.enter n frame = .ok t) : t.xm = false := by
  obtain ⟨e, pas, -, -, -, rfl⟩ := State.enter_ok.mp h
  exact supervisorMode_xm s.mode

/-- A CPU that is reset is in supervisor mode (70_reset_and_hazards.md R542). -/
theorem State.xm_cpuReset (s : State) : s.cpuReset.xm = false := BitVec.getLsbD_zero

theorem State.xm_deliverAbort (s : State) : s.deliverAbort.xm = false := by
  rcases s.deliverAbort_cases with ⟨t, ht, e⟩ | e
  · exact e ▸ State.xm_enter ht
  · exact e ▸ s.xm_cpuReset

theorem State.xm_deliverException (s : State) (n : Nat) (sip : Word) : (s.deliverException n sip).xm = false := by
  rcases s.deliverException_cases n sip with ⟨t, ht, e⟩ | e | e
  · exact e ▸ State.xm_enter ht
  · exact e ▸ s.xm_cpuReset
  · exact e ▸ s.xm_deliverAbort

/-- Every exception is handled in supervisor mode (60_exceptions.md R504, R507). -/
theorem State.xm_takeException (s : State) (e : Exc) : (s.takeException e).xm = false := by
  cases e with
  | und | prot | xa | div => exact State.xm_deliverException _ _ _
  | pf f =>
    change (s.takePageFault f).xm = false
    rcases s.takePageFault_cases f with e | e | ⟨pas, -, e⟩
    · exact e ▸ State.xm_deliverException _ _ _
    · exact e ▸ State.xm_deliverAbort _
    · exact e ▸ State.xm_deliverException _ _ _

/-- A delivery that does not enter the supervisor is a dropped Debug Trap, which goes on as after a branch (60_exceptions.md
R515). -/
theorem State.supervised_deliver {n : Nat} {sip : Word} (h : (s.deliver n sip).xm = true) :
    (s.deliver n sip).supervised = s.supervised := by
  have supervisor (t : State) (ht : t.xm = false) (e : s.deliver n sip = t) : (s.deliver n sip).supervised = s.supervised :=
    absurd ((e ▸ h).symm.trans ht) (by decide)
  rcases s.deliver_cases n sip with ⟨t, ht, e⟩ | e | e | e | ⟨-, e⟩
  · exact supervisor t (State.xm_enter ht) e
  · exact supervisor _ s.xm_cpuReset e
  · exact supervisor _ s.xm_deliverAbort e
  · exact supervisor _ (State.xm_deliverException _ _ _) e
  · rw [e, State.supervised_jump]

end

/-! ### Computations confined to program mode -/

/-- From program mode, every next state that a meaning computes has left that mode, or has the supervisor's state of `s`. -/
def State.Confined (s : State) (x : Result) : Prop :=
  s.xm = true → ∀ t, x = .ok t → t.xm = true → t.supervised = s.supervised

/-- The same of an outcome. -/
def State.ConfinedNext (s : State) (o : Host.Outcome State Fault Refusal) : Prop :=
  s.xm = true → ∀ t, o = .next t → t.xm = true → t.supervised = s.supervised

variable {s : State}

/-- A taken exception leaves program mode. -/
theorem State.Confined.finish {x : Result} (h : s.Confined x) : s.ConfinedNext (finish s x) := by
  intro program t ht stays
  rcases finish_next.mp ht with hx | ⟨e, -, rfl⟩
  · exact h program t hx stays
  · exact absurd (stays.symm.trans (s.xm_takeException e)) (by decide)

theorem State.confined_error (s : State) (e : Trap) : s.Confined (.error e) := by
  intro _ t h; cases h

/-- An instruction that only takes an exception in program mode is confined. -/
theorem State.confinedNext_of_exception {o : Host.Outcome State Fault Refusal}
    (h : s.xm = true → ∃ e, o = .next (s.takeException e)) : s.ConfinedNext o := by
  intro program t ht stays
  obtain ⟨e, rfl⟩ := h program
  obtain ⟨rfl⟩ := ht
  exact absurd (stays.symm.trans (s.xm_takeException e)) (by decide)

/-! ### Arithmetic, logic and shifts -/

theorem alu2_confined {f : Word → Word → Word} {fl : Word → Word → Word → Nat → Word} {l nf : Bool} {a b : Operand} :
    s.Confined (alu2 f fl l nf a b s) := by
  intro program t h _
  simp only [alu2, Result.bind_ok, Except.ok.injEq] at h
  obtain ⟨_, checked, -, -, y, -, d, hd, x, -, u, hu, rfl⟩ := h
  simpa using State.supervised_writeTarget (State.target_unprivileged program checked hd) hu

theorem shift2_confined {g : Nat → Word → Word → Word × Bool} {l nf : Bool} {a b : Operand} :
    s.Confined (shift2 g l nf a b s) := by
  intro program t h _
  simp only [shift2, Result.bind_ok, Except.ok.injEq] at h
  obtain ⟨_, checked, -, -, y, -, d, hd, x, -, u, hu, rfl⟩ := h
  simpa using State.supervised_writeTarget (State.target_unprivileged program checked hd) hu

theorem aluFromGpr_confined {f : Word → Word → Word} {fl : Word → Word → Word → Nat → Word} {r : BitVec 4} {a : Operand} :
    s.Confined (aluFromGpr f fl r a s) := by
  intro program t h _
  simp only [aluFromGpr, Result.bind_ok, Except.ok.injEq] at h
  obtain ⟨_, checked, -, -, -, -, d, hd, x, -, u, hu, rfl⟩ := h
  simpa using State.supervised_writeTarget (State.target_unprivileged program checked hd) hu

theorem aluToGpr_confined {f : Word → Word → Word} {fl : Word → Word → Word → Nat → Word} {r : BitVec 4} {a : Operand} :
    s.Confined (aluToGpr f fl r a s) := by
  intro _ t h _
  simp only [aluToGpr, Result.bind_ok, Except.ok.injEq] at h
  obtain ⟨-, -, y, -, rfl⟩ := h
  rfl

theorem shiftGpr_confined {g : Nat → Word → Word → Word × Bool} {r : BitVec 4} {a : Operand} :
    s.Confined (shiftGpr g r a s) := by
  intro _ t h _
  simp only [shiftGpr, Result.bind_ok, Except.ok.injEq] at h
  obtain ⟨-, -, y, -, rfl⟩ := h
  rfl

theorem unaryGpr_confined {g : Word → Word} {r : BitVec 4} : s.Confined (unaryGpr g r s) := by
  rintro _ t ⟨rfl⟩ _; rfl

theorem unary_confined {g : Word → Word} {nf : Bool} {a : Operand} : s.Confined (unary g nf a s) := by
  intro program t h _
  simp only [unary, Result.bind_ok, Except.ok.injEq] at h
  obtain ⟨_, checked, -, -, -, -, d, hd, x, -, u, hu, rfl⟩ := h
  simpa using State.supervised_writeTarget (State.target_unprivileged program checked hd) hu

theorem State.supervised_writeConverted {nip v : Word} {d : Target} {n : Nat} {nf : Bool} {t : State} (hd : d.unprivileged)
    (h : s.writeConverted nip d v n nf = .ok t) : t.supervised = s.supervised := by
  simp only [State.writeConverted, Result.bind_ok, Except.ok.injEq] at h
  obtain ⟨u, hu, rfl⟩ := h
  simpa using State.supervised_writeTarget hd hu

theorem moveSigned_confined {nf : Bool} {a b : Operand} : s.Confined (moveSigned nf a b s) := by
  intro program t h _
  simp only [moveSigned, Result.bind_ok] at h
  obtain ⟨_, checked, -, -, v, -, d, hd, h⟩ := h
  exact State.supervised_writeConverted (State.target_unprivileged program checked hd) h

theorem swapBytes_confined {nf : Bool} {a b : Operand} : s.Confined (swapBytes nf a b s) := by
  intro program t h _
  simp only [swapBytes, Result.bind_ok] at h
  obtain ⟨_, checked, -, -, -, -, v, -, d, hd, h⟩ := h
  exact State.supervised_writeConverted (State.target_unprivileged program checked hd) h

theorem State.supervised_setPair (n : Nat) (nf : Bool) (lo hi : Nat) : (s.setPair n nf lo hi).supervised = s.supervised := by
  simp [State.setPair]

theorem multiply_confined {n : Nat} {nf : Bool} : s.Confined (multiply n nf s) := by
  rintro _ t ⟨rfl⟩ _; exact State.supervised_setPair _ _ _ _

theorem multiplySigned_confined {n : Nat} {nf : Bool} : s.Confined (multiplySigned n nf s) := by
  rintro _ t ⟨rfl⟩ _; exact State.supervised_setPair _ _ _ _

theorem divide_confined {n : Nat} {wide nf : Bool} : s.Confined (divide n wide nf s) := by
  intro _ t h _
  simp only [divide, Result.bind_ok, Except.ok.injEq] at h
  obtain ⟨-, -, rfl⟩ := h
  exact State.supervised_setPair _ _ _ _

theorem divideSigned_confined {n : Nat} {wide nf : Bool} : s.Confined (divideSigned n wide nf s) := by
  intro _ t h _
  simp only [divideSigned, Result.bind_ok, Except.ok.injEq] at h
  obtain ⟨-, -, rfl⟩ := h
  exact State.supervised_setPair _ _ _ _

/-! ### Moves, comparisons and the stack -/

theorem move_confined {a b : Operand} : s.Confined (move a b s) := by
  intro program t h _
  simp only [move, Result.bind_ok, Except.ok.injEq] at h
  obtain ⟨_, checked, -, -, -, -, -, -, v, -, d, hd, u, hu, rfl⟩ := h
  simpa using State.supervised_writeTarget (State.target_unprivileged program checked hd) hu

theorem loadAddress_confined {a b : Operand} : s.Confined (loadAddress a b s) := by
  intro program t h _
  simp only [loadAddress, Result.bind_ok] at h
  obtain ⟨_, checked, h⟩ := h
  split at h
  next addr _ r z _ ha =>
    simp only [Result.bind_ok, Except.ok.injEq] at h
    obtain ⟨-, -, u, hu, rfl⟩ := h
    have opened : s.openTarget (s.place (s.nip2 a b) a) = .ok (.reg r z) := congrArg s.openTarget ha
    simpa using State.supervised_writeTarget (State.target_unprivileged program checked opened) hu
  · cases h

theorem moveToGpr_confined {r : BitVec 4} {a : Operand} : s.Confined (moveToGpr r a s) := by
  intro _ t h _
  simp only [moveToGpr, Result.bind_ok, Except.ok.injEq] at h
  obtain ⟨-, -, v, -, rfl⟩ := h
  rfl

theorem moveFromGpr_confined {r : BitVec 4} {a : Operand} : s.Confined (moveFromGpr r a s) := by
  intro program t h _
  simp only [moveFromGpr, Result.bind_ok, Except.ok.injEq] at h
  obtain ⟨_, checked, -, -, -, -, d, hd, u, hu, rfl⟩ := h
  simpa using State.supervised_writeTarget (State.target_unprivileged program checked hd) hu

theorem loadAddressToGpr_confined {r : BitVec 4} {a : Operand} : s.Confined (loadAddressToGpr r a s) := by
  intro _ t h _
  simp only [loadAddressToGpr, Result.bind_ok] at h
  obtain ⟨-, -, h⟩ := h
  split at h
  · obtain ⟨rfl⟩ := h; rfl
  · cases h

theorem noOperation_confined {len : Nat} : s.Confined (noOperation len s) := by
  rintro _ t ⟨rfl⟩ _; rfl

theorem State.supervised_push {t : State} {v : Word} (h : s.push v = .ok t) : t.supervised = s.supervised := by
  obtain ⟨pas, -, rfl⟩ := State.push_ok.mp h
  rfl

theorem pushOperand_confined {a : Operand} : s.Confined (pushOperand a s) := by
  intro _ t h _
  simp only [pushOperand, Result.bind_ok, Except.ok.injEq] at h
  obtain ⟨-, -, v, -, u, hu, rfl⟩ := h
  simpa using State.supervised_push hu

theorem popOperand_confined {a : Operand} : s.Confined (popOperand a s) := by
  intro program t h _
  simp only [popOperand, Result.bind_ok, Except.ok.injEq] at h
  obtain ⟨_, checked, -, -, -, -, slot, -, d, hd, u, hu, rfl⟩ := h
  simpa using State.supervised_writeTarget (State.target_unprivileged program checked hd) hu

theorem pushGprCore_confined {r : BitVec 4} : s.Confined (pushGprCore r s) := by
  intro _ t h _
  simp only [pushGprCore, Result.bind_ok, Except.ok.injEq] at h
  obtain ⟨u, hu, rfl⟩ := h
  simpa using State.supervised_push hu

theorem popGprCore_confined {r : BitVec 4} : s.Confined (popGprCore r s) := by
  intro _ t h _
  simp only [popGprCore, Result.bind_ok, Except.ok.injEq] at h
  obtain ⟨slot, -, rfl⟩ := h
  rfl

theorem State.supervised_conditionalMove {nip : Word} {p q : Place} {holds : Bool} {t : State} (hp : p.unprivileged)
    (h : s.conditionalMove nip p q holds = .ok t) : t.supervised = s.supervised := by
  simp only [State.conditionalMove, Result.bind_ok] at h
  obtain ⟨v, -, d, hd, h⟩ := h
  split at h
  · simp only [Result.bind_ok, Except.ok.injEq] at h
    obtain ⟨u, hu, rfl⟩ := h
    simpa using State.supervised_writeTarget (State.openTarget_unprivileged hp hd) hu
  · obtain ⟨rfl⟩ := h; rfl

theorem moveIfOperand_confined {cc : Cond} {a b c : Operand} : s.Confined (moveIfOperand cc a b c s) := by
  intro program t h _
  simp only [moveIfOperand, Result.bind_ok] at h
  obtain ⟨_, checked, -, -, h⟩ := h
  split at h
  · simp only [Result.bind_ok] at h
    obtain ⟨-, -, w, -, h⟩ := h
    exact State.supervised_conditionalMove (State.place_unprivileged program checked (by simp) _) h
  · cases h

theorem moveIf_confined {cc : Cond} {a b : Operand} : s.Confined (moveIf cc a b s) := by
  intro program t h _
  simp only [moveIf, Result.bind_ok] at h
  obtain ⟨_, checked, -, -, -, -, h⟩ := h
  exact State.supervised_conditionalMove (State.place_unprivileged program checked (by simp) _) h

theorem compare2_confined {fl : Word → Word → Word → Nat → Word} {a b : Operand} : s.Confined (compare2 fl a b s) := by
  intro _ t h _
  simp only [compare2, Result.bind_ok, Except.ok.injEq] at h
  obtain ⟨-, -, -, -, -, -, x, -, y, -, rfl⟩ := h
  rfl

theorem compareGpr_confined {fl : Word → Word → Word → Nat → Word} {r : BitVec 4} {a : Operand} :
    s.Confined (compareGpr fl r a s) := by
  intro _ t h _
  simp only [compareGpr, Result.bind_ok, Except.ok.injEq] at h
  obtain ⟨-, -, y, -, rfl⟩ := h
  rfl

/-! ### Atomic operations -/

theorem exchange_confined {a b : Operand} : s.Confined (exchange a b s) := by
  intro program t h _
  simp only [exchange, Result.bind_ok, Except.ok.injEq] at h
  obtain ⟨_, checked, -, -, d, hd, e, he, y, -, x, -, -, -, -, -, rfl⟩ := h
  have first := State.target_unprivileged program checked hd
  have second := State.target_unprivileged program checked he
  exact (State.supervised_setTarget _ second _).trans (s.supervised_setTarget first _)

theorem compareExchange_confined {fails : Bool} {a b c : Operand} : s.Confined (compareExchange fails a b c s) := by
  intro program t h _
  simp only [compareExchange, Result.bind_ok] at h
  obtain ⟨_, checked, -, -, d, hd, e, he, new, -, expected, -, old, -, -, -, h⟩ := h
  have first := State.target_unprivileged program checked hd
  have second := State.target_unprivileged program checked he
  generalize (old == expected && !fails) = same at h
  cases same
  · split at h
    · obtain ⟨rfl⟩ := h
      exact (State.supervised_setTarget _ second _).trans (s.supervised_setTarget first _)
    · cases h
  · split at h <;> (obtain ⟨rfl⟩ := h; exact s.supervised_setTarget first _)

theorem fenceCore_confined : s.Confined (fenceCore s) := by
  rintro _ t ⟨rfl⟩ _; rfl

/-! ### Branches -/

theorem State.takeBranch_confined {d : Word} : s.Confined (s.takeBranch d) := by
  intro _ t h _
  obtain ⟨-, rfl⟩ := State.takeBranch_ok.mp h
  rfl

theorem branchIf_confined {cc : Cond} {rel : Bool} {d : SizedImm} : s.Confined (branchIf cc rel d s) := by
  unfold branchIf
  split
  · exact State.takeBranch_confined
  · rintro _ t ⟨rfl⟩ _; rfl

theorem State.callTo_confined {d nip : Word} : s.Confined (s.callTo d nip) := by
  intro _ t h _
  obtain ⟨pas, -, -, rfl⟩ := State.callTo_ok.mp h
  rfl

theorem State.fastCallTo_confined {d nip : Word} : s.Confined (s.fastCallTo d nip) := by
  intro _ t h _
  obtain ⟨-, rfl⟩ := State.fastCallTo_ok.mp h
  rfl

theorem returnCore_confined : s.Confined (returnCore s) := by
  intro _ t h _
  simp only [returnCore, Result.bind_ok, Except.ok.injEq] at h
  obtain ⟨pas, -, -, -, rfl⟩ := h
  rfl

/-! ### Register images -/

theorem storeGprs_confined {a : Operand} : s.Confined (storeGprs a s) := by
  intro _ t h _
  simp only [storeGprs, Result.bind_ok, Except.ok.injEq] at h
  obtain ⟨-, -, addr, -, pas, -, rfl⟩ := h
  simp

theorem storeProgramRegisters_confined {a : Operand} : s.Confined (storeProgramRegisters a s) := by
  intro _ t h _
  simp only [storeProgramRegisters, Result.bind_ok, Except.ok.injEq] at h
  obtain ⟨-, -, addr, -, pas, -, rfl⟩ := h
  exact (State.supervised_advance _ _).trans (s.supervised_storeBlocks _ _ _)

theorem pushGprs_confined : s.Confined (pushGprs s) := by
  intro _ t h _
  simp only [pushGprs, Result.bind_ok, Except.ok.injEq] at h
  obtain ⟨pas, -, rfl⟩ := h
  simp

theorem pushProgramRegisters_confined : s.Confined (pushProgramRegisters s) := by
  intro _ t h _
  simp only [pushProgramRegisters, Result.bind_ok, Except.ok.injEq] at h
  obtain ⟨pas, -, rfl⟩ := h
  exact (State.supervised_advance _ _).trans ((State.supervised_setR _ _ _).trans (s.supervised_storeBlocks _ _ _))

theorem restoreGprs_confined {a : Operand} : s.Confined (restoreGprs a s) := by
  intro _ t h _
  simp only [restoreGprs, Result.bind_ok, Except.ok.injEq] at h
  obtain ⟨-, -, addr, -, pas, -, rfl⟩ := h
  simp

theorem popGprs_confined : s.Confined (popGprs s) := by
  intro _ t h _
  simp only [popGprs, Result.bind_ok, Except.ok.injEq] at h
  obtain ⟨pas, -, rfl⟩ := h
  simp

/-- In program mode the upper half of `mode` is not loaded (10_state.md R42, 42_bulk_registers.md R294). -/
theorem State.loadProgramRegisters_confined {pas : List Nat} : s.Confined (s.loadProgramRegisters pas) := by
  intro program t h _
  simp only [State.loadProgramRegisters, Result.bind_ok, Except.ok.injEq] at h
  obtain ⟨-, -, rfl⟩ := h
  have upper : s.restoreMode (s.loadSlot pas 18) >>> 32 =
      ((s.loadGprs pas).writeFlags (s.loadSlot pas 17)).mode >>> 32 := by
    rw [State.writeFlags_mode, State.loadGprs_mode, s.restoreMode_upper _ program]
  exact (State.supervised_withMode upper).trans ((State.supervised_writeFlags _ _).trans (s.supervised_loadGprs pas))

theorem restoreProgramRegisters_confined {a : Operand} : s.Confined (restoreProgramRegisters a s) := by
  intro program t h stays
  simp only [restoreProgramRegisters, Result.bind_ok, Except.ok.injEq] at h
  obtain ⟨-, -, addr, -, pas, -, u, hu, rfl⟩ := h
  exact State.loadProgramRegisters_confined program u hu stays

theorem popProgramRegisters_confined : s.Confined (popProgramRegisters s) := by
  intro program t h stays
  simp only [popProgramRegisters, Result.bind_ok, Except.ok.injEq] at h
  obtain ⟨pas, -, u, hu, rfl⟩ := h
  exact State.loadProgramRegisters_confined program u hu stays

/-! ### Forcing transfers -/

/-- A mode value that passes its check in program mode has the upper half of `mode` (47_forcing_transfers.md R424). -/
theorem State.checkMode_upper {m : Word} {x : Unit} (program : s.xm = true) (h : s.checkMode m = .ok x) :
    m >>> 32 = s.mode >>> 32 := by
  simp only [State.checkMode, Result.bind_ok, require_ok] at h
  obtain ⟨-, -, -, -, upper⟩ := h
  simpa [program] using upper

theorem jumpSetMode_confined {rel : Bool} {d : SizedImm} : s.Confined (jumpSetMode rel d s) := by
  intro program t h _
  simp only [jumpSetMode, Result.bind_ok, Except.ok.injEq] at h
  obtain ⟨_, checked, -, -, rfl⟩ := h
  exact State.supervised_withMode (s := s.jump _) (State.checkMode_upper program checked)

theorem callSetMode_confined {v rel : Bool} {d : SizedImm} : s.Confined (callSetMode v rel d s) := by
  intro program t h _
  simp only [callSetMode, Result.bind_ok, Except.ok.injEq] at h
  obtain ⟨_, checked, pas, -, -, -, rfl⟩ := h
  have upper := State.checkMode_upper program checked
  cases v <;> exact State.supervised_withMode (s := s) upper

theorem returnRestoreMode_confined : s.Confined (returnRestoreMode s) := by
  intro program t h _
  simp only [returnRestoreMode, Result.bind_ok, Except.ok.injEq] at h
  obtain ⟨pas, -, _, checked, -, -, rfl⟩ := h
  exact State.supervised_withMode (s := s) (State.checkMode_upper program checked)

/-- A supervisor call enters the supervisor (47_forcing_transfers.md R430 to R432). -/
theorem supervisorCall_confined : s.Confined (supervisorCall s) := by
  have enters {t : State} (supervisor : t.mode = supervisorMode s.mode) (stays : t.xm = true) :
      t.supervised = s.supervised := by
    rw [State.xm, supervisor, supervisorMode_xm] at stays
    cases stays
  intro _ t h
  simp only [supervisorCall, Result.bind_ok] at h
  obtain ⟨-, -, -, -, h⟩ := h
  split at h
  · simp only [fastSupervisorCall, Result.bind_ok, Except.ok.injEq] at h
    obtain ⟨-, -, rfl⟩ := h
    exact enters rfl
  · simp only [stackSupervisorCall, Result.bind_ok, Except.ok.injEq] at h
    obtain ⟨pas, -, -, -, rfl⟩ := h
    exact enters rfl

theorem softwareInterrupt_confined {i : BitVec 4} : s.Confined (softwareInterrupt i s) := by
  have delivered : s.Confined (.ok (s.deliver (16 + i.toNat) (s.nextIp 2))) := by
    rintro _ t ⟨rfl⟩ stays; exact State.supervised_deliver stays
  have raised : s.Confined (raise .prot) := s.confined_error _
  simp only [softwareInterrupt]
  split
  · split
    · exact raised
    · exact delivered
    · split
      · exact raised
      · exact delivered
  · rintro _ t ⟨rfl⟩ _; rfl

/-! ### Every instruction -/

/-- From program mode every instruction is confined: the supervisor instructions and the opcodes without a meaning take an
exception, and each other instruction is one of the meanings above, those not named here being the conditional branches. -/
theorem exec_confined (i : Instr) (s : State) : s.ConfinedNext (exec i s) := by
  have supervisorOnly (h : privileged i = true) : s.ConfinedNext (exec i s) :=
    State.confinedNext_of_exception fun program => ⟨.prot, exec_of_privileged h program⟩
  have machine {op : BitVec 12} (h : machineOpcode i = some op) : s.ConfinedNext (exec i s) := by
    refine State.confinedNext_of_exception fun program => ?_
    rw [exec_of_machineOpcode h s]
    by_cases provided : op ∈ s.params.machineInsn
    · exact ⟨.prot, (machineInstruction_of_provided provided).trans (if_pos program)⟩
    · exact ⟨.und, machineInstruction_of_absent provided⟩
  have undefined (h : alwaysUndefined i = true) : s.ConfinedNext (exec i s) :=
    State.confinedNext_of_exception fun _ => ⟨.und, exec_of_alwaysUndefined s h⟩
  cases i with
  | halt | pcfl | flall | dflush | iflush | ioIn | ioOut | storegf | rstregf | scret | reti => exact supervisorOnly rfl
  | machineFe0 | machineFe1 | machineFe2 | machineFe3 | machineFe4 | machineFe5 | machineFe6 | machineFe7 | machineFe8
  | machineFe9 | machineFea | machineFeb | machineFec | machineFed | machineFee | machineFef | machineFf0 | machineFf1
  | machineFf2 | machineFf3 | machineFf4 | machineFf5 | machineFf6 | machineFf7 | machineFf8 | machineFf9 | machineFfa
  | machineFfb | machineFfc | machineFfd | machineFfe => exact machine rfl
  | und000 | undFFF => exact undefined rfl
  | add | sub | and | or | xor => exact alu2_confined.finish
  | addTogpr | subTogpr | andTogpr | orTogpr | xorTogpr => exact aluToGpr_confined.finish
  | addFromgpr | subFromgpr | andFromgpr | orFromgpr | xorFromgpr => exact aluFromGpr_confined.finish
  | mul => exact multiply_confined.finish
  | imul => exact multiplySigned_confined.finish
  | div => exact divide_confined.finish
  | idiv => exact divideSigned_confined.finish
  | movsx => exact moveSigned_confined.finish
  | bswap => exact swapBytes_confined.finish
  | lsh | rsh | arsh | lshc | rshc | lrot | rrot => exact shift2_confined.finish
  | lshGpr | rshGpr | arshGpr | lshcGpr | rshcGpr | lrotGpr | rrotGpr => exact shiftGpr_confined.finish
  | bnot | neg => exact unary_confined.finish
  | bnotGpr | negGpr => exact unaryGpr_confined.finish
  | mov => exact move_confined.finish
  | lea => exact loadAddress_confined.finish
  | movTogpr => exact moveToGpr_confined.finish
  | movFromgpr => exact moveFromGpr_confined.finish
  | leaTogpr => exact loadAddressToGpr_confined.finish
  | nop | nop1 | nop2 | nop3 => exact noOperation_confined.finish
  | push => exact pushOperand_confined.finish
  | pop => exact popOperand_confined.finish
  | pushReg => exact pushGprCore_confined.finish
  | popReg => exact popGprCore_confined.finish
  | cmovt => exact moveIfOperand_confined.finish
  | cmov => exact moveIf_confined.finish
  | cmp | test => exact compare2_confined.finish
  | cmpGpr | testGpr => exact compareGpr_confined.finish
  | xchg => exact exchange_confined.finish
  | cmpxchg | wcmpxchg => exact compareExchange_confined.finish
  | fence => exact fenceCore_confined.finish
  | stogpr => exact storeGprs_confined.finish
  | stoar => exact storeProgramRegisters_confined.finish
  | rstogpr => exact restoreGprs_confined.finish
  | rstoar => exact restoreProgramRegisters_confined.finish
  | pushgpr => exact pushGprs_confined.finish
  | pushar => exact pushProgramRegisters_confined.finish
  | popgpr => exact popGprs_confined.finish
  | popar => exact popProgramRegisters_confined.finish
  | jmpAbs | jmpRel | ijmpAbs | ijmpRel | fretAbs | fretRel | ifjmpAbs | ifjmpRel =>
    exact State.takeBranch_confined.finish
  | callAbs | callRel | icallAbs | icallRel => exact State.callTo_confined.finish
  | fcallAbs | fcallRel | ifcallAbs | ifcallRel => exact State.fastCallTo_confined.finish
  | ret => exact returnCore_confined.finish
  | jsmAbs | jsmRel => exact jumpSetMode_confined.finish
  | callsmAbs | callsmRel => exact callSetMode_confined.finish
  | retrsm => exact returnRestoreMode_confined.finish
  | scall => exact supervisorCall_confined.finish
  | int => exact softwareInterrupt_confined.finish
  | _ => exact branchIf_confined.finish

/-- Settles O60: a confined instruction that stays in program mode has left the supervised part of the state alone. -/
theorem programModeIsolation : Obligations.ProgramModeIsolation :=
  fun i s t program ht stays => SameSupervisor.of_supervised (exec_confined i s program t ht stays)

end Sys2Proof.Machine
end

section
/-! PROOF. Register operands: which are refused, what writeback validation admits, and what an admitted write leaves
(10_state.md R46, R47, R60; 30_encoding.md R186; 60_exceptions.md R493, R498). -/

namespace Sys2Proof.Machine

/-! ### Access classes -/

/-- The reserved register numbers (10_state.md R21). -/
theorem regClass_eq_reserved_iff (r : BitVec 8) :
    regClass r = .reserved ↔ (19 ≤ r.toNat ∧ r.toNat ≤ 127) ∨ r.toNat = 146 ∨ r.toNat = 147 ∨ 155 ≤ r.toNat := by
  simp only [regClass]
  split_ifs <;> simp <;> omega

/-- The numbers of the CPUInfo registers (10_state.md R54). -/
theorem regClass_eq_cpuInfo_iff (r : BitVec 8) : regClass r = .cpuInfo ↔ 136 ≤ r.toNat ∧ r.toNat ≤ 143 := by
  simp only [regClass]
  split_ifs <;> simp <;> omega

/-! ### The checks of operands -/

/-- A property that only register operands have, of some operand of a list. -/
theorem any_register_iff {f : Operand → Bool} {q : Nat → Prop} {ops : List Operand}
    (register : ∀ z r, f (.reg z r) = true ↔ q r.toNat) (only : ∀ a, f a = true → ∃ z r, a = .reg z r) :
    ops.any f = true ↔ ∃ z r, Operand.reg z r ∈ ops ∧ q r.toNat := by
  rw [List.any_eq_true]
  constructor
  · rintro ⟨a, ha, holds⟩
    obtain ⟨z, r, rfl⟩ := only a holds
    exact ⟨z, r, ha, (register z r).mp holds⟩
  · rintro ⟨z, r, ha, holds⟩
    exact ⟨_, ha, (register z r).mpr holds⟩

theorem reservedOperand_reg (z : Size) (r : BitVec 8) :
    reservedOperand (.reg z r) = true ↔
      (19 ≤ r.toNat ∧ r.toNat ≤ 127) ∨ r.toNat = 146 ∨ r.toNat = 147 ∨ 155 ≤ r.toNat := by
  rw [← regClass_eq_reserved_iff]
  exact beq_iff_eq

/-- The registers that program mode may not name: those of the supervisor, and the CPUInfo registers that `ciread` closes
(10_state.md R22, R53). -/
theorem State.protectedOperand_reg (s : State) (z : Size) (r : BitVec 8) :
    s.protectedOperand (.reg z r) = true ↔
      (128 ≤ r.toNat ∧ r.toNat ≤ 135) ∨ r.toNat = 144 ∨ r.toNat = 145 ∨ (148 ≤ r.toNat ∧ r.toNat ≤ 154) ∨
        (136 ≤ r.toNat ∧ r.toNat ≤ 143 ∧ s.ciread.getLsbD (r.toNat - 136) = false) := by
  have classes : s.protectedOperand (.reg z r) = true ↔
      regClass r = .supervisor ∨ regClass r = .cpuInfo ∧ s.ciread.getLsbD (r.toNat - 136) = false := by
    simp only [State.protectedOperand]
    cases regClass r <;> simp
  rw [classes, regClass_eq_supervisor_iff, regClass_eq_cpuInfo_iff]
  simp only [or_assoc, and_assoc]

theorem reservedOperand_only (a : Operand) (h : reservedOperand a = true) : ∃ z r, a = .reg z r := by
  cases a with
  | reg z r => exact ⟨z, r, rfl⟩
  | _ => cases h

theorem State.protectedOperand_only (s : State) (a : Operand) (h : s.protectedOperand a = true) : ∃ z r, a = .reg z r := by
  cases a with
  | reg z r => exact ⟨z, r, rfl⟩
  | _ => cases h

section
variable {s : State} {ops : List Operand}

theorem State.checkOperands_of_reserved (h : ops.any reservedOperand = true) : s.checkOperands ops = raise .und := by
  rw [State.checkOperands, h]
  rfl

theorem State.checkOperands_of_protected (h : ops.any reservedOperand = false) (program : s.xm = true)
    (closed : ops.any s.protectedOperand = true) : s.checkOperands ops = raise .prot := by
  rw [State.checkOperands, h, program, closed]
  rfl

theorem State.checkOperands_of_permitted (h : ops.any reservedOperand = false)
    (permitted : (s.xm && ops.any s.protectedOperand) = false) : s.checkOperands ops = .ok () := by
  rw [State.checkOperands, h, permitted]
  rfl

end

/-! ### Writeback validation -/

section
variable {s : State} {r : BitVec 8} {v : Word}

/-- `ip`, `mode` and the CPUInfo registers take no value (60_exceptions.md R498). -/
theorem State.writebackCheck_of_readOnly (h : r.toNat = 16 ∨ r.toNat = 18 ∨ (136 ≤ r.toNat ∧ r.toNat ≤ 143)) :
    s.writebackCheck r v = raise .und := by
  rcases h with e | e | info
  · simp only [State.writebackCheck, e]
  · simp only [State.writebackCheck, e]
  · unfold State.writebackCheck
    split
    case h_7 => exact if_pos info
    all_goals omega

/-- The values of `cr0` (10_state.md R45, R46). -/
theorem State.writebackCheck_cr0 (h : r.toNat = 128) :
    s.writebackCheck r v =
      if s.cr0Legal v then
        if v.getLsbD 0 ∧ s.pg = false ∧ field s.page 0 12 ≠ 0 then raise (.pf s.bareFault) else .ok ()
      else raise .und := by
  simp only [State.writebackCheck, h]

/-- A legal `cr0` value has no reserved bit and a PTL of at most VAS (10_state.md R45, R46). -/
theorem State.cr0Legal_iff : s.cr0Legal v = true ↔ ¬((v &&& ~~~0x3B#64) ≠ 0 ∨ s.vas < ptlOf v) := by
  simp only [State.cr0Legal, Bool.and_eq_true, beq_iff_eq, decide_eq_true_eq, not_or, not_lt, ne_eq, not_not]

/-- The registers whose reserved bits are all that is checked (60_exceptions.md R498). -/
theorem State.writebackCheck_reservedBits {mask : Word}
    (h : (r.toNat = 130 ∧ mask = 0x1F#64) ∨ (r.toNat = 133 ∧ mask = 0x2#64) ∨ (r.toNat = 135 ∧ mask = 0xFF#64)) :
    s.writebackCheck r v = require (v &&& ~~~mask == 0) .und := by
  rcases h with ⟨e, rfl⟩ | ⟨e, rfl⟩ | ⟨e, rfl⟩ <;> simp only [State.writebackCheck, e]
  rfl

theorem State.writebackCheck_of_reservedBit {mask : Word}
    (h : (r.toNat = 130 ∧ mask = 0x1F#64) ∨ (r.toNat = 133 ∧ mask = 0x2#64) ∨ (r.toNat = 135 ∧ mask = 0xFF#64))
    (bit : (v &&& ~~~mask) ≠ 0) : s.writebackCheck r v = raise .und := by
  rw [State.writebackCheck_reservedBits h, beq_eq_false_iff_ne.mpr bit]
  rfl

section
variable (h : 148 ≤ r.toNat ∧ r.toNat ≤ 154)
include h

theorem isMsr_of_number : isMsr r = true := by
  simp [isMsr, h]

/-- A machine-specific register where `MSR_MODEL` refuses it (10_state.md R60; log 27). -/
theorem State.writebackCheck_msr_of_refuse (model : s.params.msrModel = .refuse) :
    s.writebackCheck r v = .error (.refuse (.machineSpecificRegister r.toNat)) := by
  have notInfo : ¬(136 ≤ r.toNat ∧ r.toNat ≤ 143) := by omega
  unfold State.writebackCheck
  split
  case h_7 => rw [if_neg notInfo, isMsr_of_number h, if_pos rfl, model]
  all_goals omega

/-- A machine-specific register where the machine has it: the check is the implementation's (10_state.md R60; log 27). -/
theorem State.writebackCheck_msr_of_storage (model : s.params.msrModel = .storage) :
    s.writebackCheck r v = require (!Config.msrRejects s.draws r.toNat v) .und := by
  have notInfo : ¬(136 ≤ r.toNat ∧ r.toNat ≤ 143) := by omega
  unfold State.writebackCheck
  split
  case h_7 => rw [if_neg notInfo, isMsr_of_number h, if_pos rfl, model]
  all_goals omega

theorem State.readRegister_msr_of_refuse (model : s.params.msrModel = .refuse) (nip : Word) (z : Size) :
    s.readRegister nip r z = .error (.refuse (.machineSpecificRegister r.toNat)) :=
  if_pos ⟨isMsr_of_number h, model⟩

theorem State.readRegister_msr_of_storage (model : s.params.msrModel = .storage) (nip : Word) (z : Size) :
    s.readRegister nip r z = .ok (truncBits z.bits (s.msr.toList.getD (r.toNat - 148) 0)) := by
  have value : s.readReg (s.observedIp nip) r = s.msr.toList.getD (r.toNat - 148) 0 := by
    have notGeneral : ¬r.toNat < 16 := by omega
    have stored : s.msrValue (r.toNat - 148) = s.msr.toList.getD (r.toNat - 148) 0 := by rw [State.msrValue, model]
    rw [State.readReg, dif_neg notGeneral]
    split
    case h_22 => rw [isMsr_of_number h, if_pos rfl, stored]
    all_goals omega
  rw [State.readRegister, if_neg (by simp [model]), value]

end

/-- Every other register admits every value (60_exceptions.md R498). -/
theorem State.writebackCheck_of_unchecked
    (unchecked : ∀ n ∈ [16, 18, 128, 130, 133, 135], r.toNat ≠ n) (notInfo : ¬(136 ≤ r.toNat ∧ r.toNat ≤ 143))
    (notMsr : ¬(148 ≤ r.toNat ∧ r.toNat ≤ 154)) : s.writebackCheck r v = .ok () := by
  unfold State.writebackCheck
  split
  case h_7 => rw [if_neg notInfo, if_neg (by simpa [isMsr] using notMsr)]
  all_goals
    next e => exact absurd e (unchecked _ (by simp))

end

/-! ### What an admitted write leaves -/

/-- A change of `cr1` or `cr0.PG` flushes, and a change of the mapping is remembered (10_state.md R46, R47;
70_reset_and_hazards.md R551; log 46). -/
theorem State.setPaging_record (s : State) (cr0 page : Word) :
    let switched := s.pg ≠ cr0.getLsbD 0 ∨ s.page ≠ page
    s.setPaging cr0 page =
      { s with
        cr0 := cr0
        page := page
        ptHistory := if switched then [] else s.ptHistory
        syncOrder := if switched then .pageFlush :: .dataFlushAll :: s.syncOrder else s.syncOrder
        codeView :=
          if switched ∨ ptlOf s.cr0 ≠ ptlOf cr0 then some (s.codeView.getD { cr0 := s.cr0, page := s.page })
          else s.codeView } := by
  intro switched
  by_cases h : switched
  · have changed : (s.pg != cr0.getLsbD 0 || s.page != page) = true := by simpa [switched] using h
    simp only [State.setPaging, changed, h, true_or, if_true, Bool.true_or]
    rfl
  · have unchanged : (s.pg != cr0.getLsbD 0 || s.page != page) = false := by simpa [switched] using h
    simp only [State.setPaging, unchanged, h, false_or, if_false, Bool.false_or, bne_iff_ne]
    rfl

/-- A write to a machine-specific register (10_state.md R60; log 27). -/
theorem State.writeReg_msr (s : State) (i : Fin 7) (v : Word) :
    s.writeReg (BitVec.ofNat 8 (148 + i.val)) v = { s with msr := s.msr.set i.val v } := by
  have number : (BitVec.ofNat 8 (148 + i.val)).toNat = 148 + i.val := Nat.mod_eq_of_lt (by omega)
  have replaced : setMsr s.msr (148 + i.val) v = s.msr.set i.val v := by
    simp only [setMsr, Nat.le_add_right, if_true, Nat.add_sub_cancel_left]
    exact Vector.ext fun j hj => by simp [Vector.getElem_set, Vector.getElem_setIfInBounds]
  have notGeneral : ¬148 + i.val < 16 := by omega
  simp only [State.writeReg, number, notGeneral, dite_false]
  split
  case h_12 => rw [replaced]
  all_goals omega

/-- Settles O5: the checks of operands, of values and of what a write leaves, each from its lemmas above. -/
theorem writebackValidation : Obligations.WritebackValidation := by
  refine ⟨?operands, ?values, ?writes⟩
  case operands =>
    intro s ops names reservedNumber closed
    have reserved : ops.any reservedOperand = true ↔ names reservedNumber :=
      any_register_iff reservedOperand_reg reservedOperand_only
    have named : ops.any s.protectedOperand = true ↔ names closed :=
      any_register_iff s.protectedOperand_reg s.protectedOperand_only
    have valid (h : ¬names reservedNumber) : ops.any reservedOperand = false := Bool.eq_false_iff.mpr (mt reserved.mp h)
    refine ⟨fun h => State.checkOperands_of_reserved (reserved.mpr h), fun h ⟨program, closes⟩ => ?_, fun h permitted => ?_⟩
    · exact State.checkOperands_of_protected (valid h) program (named.mpr closes)
    · refine State.checkOperands_of_permitted (valid h) (Bool.eq_false_iff.mpr fun both => permitted ?_)
      rwa [Bool.and_eq_true, named] at both
  case values =>
    intro s r v n readOnly badCr0 reserved machineSpecific pagingFlags
    have legal (h : ¬badCr0) (e : n = 128) : s.cr0Legal v = true := State.cr0Legal_iff.mpr fun bad => h ⟨e, bad⟩
    have flagged : field s.page 0 12 ≠ 0 ↔ s.page.toNat % 4096 ≠ 0 := not_congr (field_low12_eq_zero_iff _)
    refine ⟨?refused, fun msr => ?msr, fun flags legalCr0 => ?faults, ?admitted⟩
    case refused =>
      rintro (h | ⟨e, bad⟩ | reservedBit)
      · exact State.writebackCheck_of_readOnly h
      · exact (State.writebackCheck_cr0 e).trans (if_neg fun legal => State.cr0Legal_iff.mp legal bad)
      · rcases reservedBit with ⟨e, bit⟩ | ⟨e, bit⟩ | ⟨e, bit⟩
        · exact State.writebackCheck_of_reservedBit (.inl ⟨e, rfl⟩) bit
        · exact State.writebackCheck_of_reservedBit (.inr (.inl ⟨e, rfl⟩)) bit
        · exact State.writebackCheck_of_reservedBit (.inr (.inr ⟨e, rfl⟩)) bit
    case msr =>
      refine ⟨fun model => ⟨State.writebackCheck_msr_of_refuse msr model, State.readRegister_msr_of_refuse msr model⟩,
        fun model => ⟨?_, State.readRegister_msr_of_storage msr model⟩⟩
      rw [State.writebackCheck_msr_of_storage msr model]
      cases Config.msrRejects s.draws r.toNat v
      · exact .inr rfl
      · exact .inl rfl
    case faults =>
      obtain ⟨e, enables, off, bits⟩ := flags
      exact (State.writebackCheck_cr0 e).trans ((if_pos (legal legalCr0 e)).trans (if_pos ⟨enables, off, flagged.mpr bits⟩))
    case admitted =>
      intro writable legalCr0 clear notMsr noFlags
      have free {mask : Word} (h : (n = 130 ∧ mask = 0x1F#64) ∨ (n = 133 ∧ mask = 0x2#64) ∨ (n = 135 ∧ mask = 0xFF#64))
          (bits : ¬(v &&& ~~~mask) ≠ 0) : s.writebackCheck r v = .ok () :=
        (State.writebackCheck_reservedBits h).trans (require_ok.mpr (beq_iff_eq.mpr (not_not.mp bits)))
      by_cases e128 : n = 128
      · refine (State.writebackCheck_cr0 e128).trans ((if_pos (legal legalCr0 e128)).trans (if_neg ?_))
        exact fun ⟨enables, off, bits⟩ => noFlags ⟨e128, enables, off, flagged.mp bits⟩
      by_cases e130 : n = 130
      · exact free (.inl ⟨e130, rfl⟩) fun bits => clear (.inl ⟨e130, bits⟩)
      by_cases e133 : n = 133
      · exact free (.inr (.inl ⟨e133, rfl⟩)) fun bits => clear (.inr (.inl ⟨e133, bits⟩))
      by_cases e135 : n = 135
      · exact free (.inr (.inr ⟨e135, rfl⟩)) fun bits => clear (.inr (.inr ⟨e135, bits⟩))
      exact State.writebackCheck_of_unchecked
        (by simpa using ⟨fun h => writable (.inl h), fun h => writable (.inr (.inl h)), e128, e130, e133, e135⟩)
        (fun h => writable (.inr (.inr h))) notMsr
  case writes =>
    intro s v paging
    exact ⟨s.setPaging_record v s.page, s.setPaging_record s.cr0 v, rfl, rfl, rfl, rfl, rfl, rfl, rfl, rfl,
      fun i => s.writeReg_msr i v⟩

end Sys2Proof.Machine
end

section
/-! PROOF. Halting, the flushes by address, and full register images (48_supervisor.md R454, R458, R459, R465 to R468). -/

namespace Sys2Proof.Machine

/-! ### Halting -/

/-- `halt` in supervisor mode (48_supervisor.md R454). -/
theorem haltCore_of_supervisor {s : State} (h : s.xm = false) :
    haltCore s = .ok { s with halted := true, ip := s.ip + 2 } :=
  Result.bind_ok.mpr ⟨(), State.requireSupervisor_of_supervisor h, rfl⟩

/-- A halted CPU with no event to take stays as it is (60_exceptions.md R512). -/
theorem step_of_halted {s : State} (halted : s.halted = true) (event : s.nextEvent = none) : step s = .next s := by
  simp only [step, event, halted, if_true]

/-- Settles O47: `halt` has one check, and a step of a halted CPU looks at the events only. -/
theorem halt : Obligations.Halt :=
  ⟨fun s supervisor => congrArg (finish s) (haltCore_of_supervisor supervisor), fun _ => step_of_halted⟩

/-! ### Flushes by address -/

section
variable {s : State} {a : Operand} {addr : Word} {z : Size} {pas : List Nat}
  (supervisor : s.xm = false) (h : s.checkOperands [a] = .ok ()) (ha : s.place (s.nip1 a) a = .mem addr z)
include supervisor h ha

/-- `dflush` of bytes that may be read (48_supervisor.md R458). -/
theorem flushData_of_translate (hp : s.translateRange s.xm .read addr z.bytes = .ok pas) :
    flushData a s = .ok { s with syncOrder := .dataFlush pas :: s.syncOrder, ip := s.nip1 a } := by
  simp only [flushData, ha, Result.bind_ok]
  exact ⟨(), State.requireSupervisor_of_supervisor supervisor, (), h, _, rfl, pas, State.validate_ok.mpr hp, rfl⟩

/-- `iflush` of bytes that may be read, at an even address or of one byte (48_supervisor.md R459). -/
theorem flushInstructions_of_translate (aligned : (decide (1 < z.bytes) && addr.getLsbD 0) = false)
    (hp : s.translateRange s.xm .read addr z.bytes = .ok pas) :
    flushInstructions a s =
      .ok { s with
            syncOrder := .execFlush pas :: s.syncOrder, recent := s.recent.map fun r => r.flushed pas, ip := s.nip1 a } := by
  simp only [flushInstructions, ha, Result.bind_ok]
  exact ⟨(), State.requireSupervisor_of_supervisor supervisor, (), h, _, rfl, (), require_ok.mpr (by rw [aligned]; rfl), pas,
    State.validate_ok.mpr hp, rfl⟩

/-- `iflush` of more than one byte at an odd address (48_supervisor.md R459, decision D39). -/
theorem flushInstructions_of_misaligned (misaligned : (decide (1 < z.bytes) && addr.getLsbD 0) = true) :
    flushInstructions a s = raise (.xa addr) := by
  simp only [flushInstructions, ha, h, State.requireSupervisor_of_supervisor supervisor]
  refine Result.bind_raise (x := require _ _) ?_ _
  rw [misaligned]
  rfl

end

/-- An operand has one byte or more. -/
theorem Size.one_lt_bytes_iff (z : Size) : 1 < z.bytes ↔ z ≠ .b1 := by
  cases z <;> decide

/-- Settles O48: the alignment decides whether `iflush` comes to its read validation. -/
theorem addressFlushes : Obligations.AddressFlushes := by
  intro a s addr z supervisor h ha
  refine ⟨fun pas hp => ⟨congrArg (finish s) (flushData_of_translate supervisor h ha hp), fun aligned => ?_⟩,
    fun wide odd => ?_⟩
  · have even : (decide (1 < z.bytes) && addr.getLsbD 0) = false := by
      rcases aligned with rfl | even
      · rfl
      · rw [even, Bool.and_false]
    exact congrArg (finish s) (flushInstructions_of_translate supervisor h ha even hp)
  · have misaligned : (decide (1 < z.bytes) && addr.getLsbD 0) = true := by
      rw [odd, decide_eq_true ((Size.one_lt_bytes_iff z).mpr wide), Bool.and_true]
    exact congrArg (finish s) (flushInstructions_of_misaligned supervisor h ha misaligned)

/-! ### The image that `storegf` stores -/

/-- Slots 155 to 255 have no register and hold 0 (48_supervisor.md R465). -/
theorem State.slot_of_high (s : State) (nip : Word) {i : Nat} (h : 155 ≤ i) (h' : i < 256) : s.slot nip i = 0 := by
  have number : (BitVec.ofNat 8 i).toNat = i := Nat.mod_eq_of_lt h'
  have notMsr : isMsr (BitVec.ofNat 8 i) = false := by simp [isMsr, number]; omega
  simp only [State.slot, State.readReg, number, notMsr, show ¬i < 16 by omega, dite_false]
  split <;> first | omega | rfl

/-- Slots 148 to 154 as the machine has them (48_supervisor.md R468). -/
def State.msrSlots (s : State) : List Word := (List.range 7).map s.msrValue

theorem State.msrSlots_of_refuse {s : State} (h : s.params.msrModel = .refuse) : s.msrSlots = List.replicate 7 0 := by
  have none : s.msrValue = fun _ => 0 := funext fun i => by simp only [State.msrValue, h]
  rw [State.msrSlots, none]
  rfl

theorem State.msrSlots_of_storage {s : State} (h : s.params.msrModel = .storage) : s.msrSlots = s.msr.toList := by
  refine List.ext_getElem (by simp [State.msrSlots]) fun i hi hi' => ?_
  simp only [State.msrSlots, State.msrValue, h, List.getElem_map, List.getElem_range]
  exact (List.getElem_eq_getD 0).symm

/-- The image of all 256 register numbers (48_supervisor.md R465). -/
theorem State.image_full (s : State) (nip : Word) :
    s.image nip 256 =
      s.gpr.toList ++ [nip, s.flags, s.mode] ++ List.replicate 109 0 ++
        [s.cr0, s.page, s.flprotect, s.scdp, s.scsp, s.sccr, s.itabp, s.ciread, s.cpuidlo, s.cpuidhi, s.cpuex2,
          s.cpuex3, s.cpuex4, s.cpuex5, s.cpuex6, s.mscpuex, s.fcode, s.pfcharp, 0, 0] ++
        s.msrSlots ++ List.replicate 101 0 := by
  have unused : (List.range 101).map (fun i => s.slot nip (155 + i)) = List.replicate 101 0 := by
    refine List.eq_replicate_iff.mpr ⟨by simp, fun v hv => ?_⟩
    obtain ⟨i, hi, rfl⟩ := List.mem_map.mp hv
    have := List.mem_range.mp hi
    exact s.slot_of_high nip (by omega) (by omega)
  rw [s.image_add nip 155 101, s.image_add nip 148 7, s.image_add nip 128 20, s.image_programRegisters, unused]
  rfl

/-- `storegf` in supervisor mode stores the image (48_supervisor.md R465). -/
theorem storeRegisterFile_of_translate {s : State} {a : Operand} {addr : Word} {z : Size} {pas : List Nat}
    (supervisor : s.xm = false) (h : s.checkOperands [a] = .ok ()) (ha : s.place (s.nip1 a) a = .mem addr z)
    (hp : s.translateRange s.xm .write addr 2048 = .ok pas) :
    storeRegisterFile a s =
      .ok ((s.storeBlocks 16 pas (wordsBytes (s.image (s.nip1 a) 256))).advance (s.nip1 a)) := by
  simp only [storeRegisterFile, State.requireSupervisor_of_supervisor supervisor]
  exact State.image_operand h ha hp _

/-- What an instruction leaves that stores and moves `ip`, as an equation. -/
theorem StoredOnly.advance_rest {s t : State} {pas : List Nat} {bs : List Byte} (h : StoredOnly s t pas bs) (nip : Word) :
    let u := t.advance nip
    u = { s with mem := u.mem, recent := u.recent, ptHistory := u.ptHistory, ip := nip } := by
  rw [h.rest]
  rfl

/-- Settles O51: the image is stored in sixteen blocks at the addresses validated before the first. -/
theorem Supervisor.storeRegisterFile : Obligations.StoreRegisterFile := by
  intro a s addr z pas supervisor h ha hp
  have stored := State.storedOnly_storeBlocks hp (s.image_bytes_length (s.nip1 a) 256) (by decide) (k := 16) (by decide)
  obtain ⟨bytes, -⟩ := stored.advance (s.nip1 a)
  refine ⟨_, s.msrSlots, congrArg (finish s) (storeRegisterFile_of_translate supervisor h ha hp),
    State.msrSlots_of_refuse, State.msrSlots_of_storage, ?_, stored.advance_rest _⟩
  rw [← s.image_full]
  exact bytes

/-! ### The image that `rstregf` loads -/

/-- The check of the control slots (48_supervisor.md R467, decision D42). -/
theorem State.controlSlotsLegal_iff (s : State) (pas : List Nat) :
    s.controlSlotsLegal pas = true ↔
      (s.loadSlot pas 128 &&& ~~~0x3B#64) = 0 ∧ ptlOf (s.loadSlot pas 128) ≤ s.vas ∧
        (s.loadSlot pas 130 &&& ~~~0x1F#64) = 0 ∧ (s.loadSlot pas 133 &&& ~~~0x2#64) = 0 ∧
        (s.loadSlot pas 135 &&& ~~~0xFF#64) = 0 := by
  simp only [State.controlSlotsLegal, State.cr0Legal, flagsMask, Bool.and_eq_true, beq_iff_eq, decide_eq_true_eq, and_assoc]
  exact Iff.rfl

/-- The reserved slots of a full image (48_supervisor.md R466). -/
theorem reservedSlots_cases {k : Nat} (h : k ∈ reservedSlots) :
    k < 256 ∧ ((19 ≤ k ∧ k < 128) ∨ k = 146 ∨ k = 147 ∨ 155 ≤ k) := by
  obtain ⟨range, reserved⟩ := List.mem_filter.mp h
  have lt : k < 256 := List.mem_range.mp range
  have number : (BitVec.ofNat 8 k).toNat = k := Nat.mod_eq_of_lt lt
  have numbers := (regClass_eq_reserved_iff _).mp (beq_iff_eq.mp reserved)
  rw [number] at numbers
  omega

/-- The state with every register but those of CPUInfo loaded from a full image (48_supervisor.md R467). -/
def State.withRegisterFile (s : State) (pas : List Nat) : State :=
  { (s.loadGprs pas).setPaging (s.loadSlot pas 128) (s.loadSlot pas 129) with
    ip := s.loadSlot pas 16
    flags := s.loadSlot pas 17 &&& flagsMask
    mode := s.loadedMode (s.loadSlot pas 18)
    flprotect := s.loadSlot pas 130
    scdp := s.loadSlot pas 131
    scsp := s.loadSlot pas 132
    sccr := s.loadSlot pas 133
    itabp := s.loadSlot pas 134
    ciread := s.loadSlot pas 135
    fcode := s.loadSlot pas 144
    pfcharp := s.loadSlot pas 145
    msr := s.loadMsrs pas }

section
variable {s : State} {a : Operand} {addr : Word} {z : Size} {pas : List Nat}
  (supervisor : s.xm = false) (h : s.checkOperands [a] = .ok ()) (ha : s.place (s.nip1 a) a = .mem addr z)
  (hp : s.translateRange s.xm .read addr 2048 = .ok pas) (zero : ∀ i ∈ reservedSlots, s.loadSlot pas i = 0)
include supervisor h ha hp zero

/-- `rstregf` of an image whose reserved slots are 0 comes to the check of the control slots (48_supervisor.md R467). -/
theorem restoreRegisterFile_of_zero :
    restoreRegisterFile a s =
      (require (s.controlSlotsLegal pas) .und >>= fun _ => .ok (s.withRegisterFile pas)) := by
  have all : require (reservedSlots.all fun i => s.loadSlot pas i == 0) .prot = .ok () :=
    require_ok.mpr (List.all_eq_true.mpr fun i hi => beq_iff_eq.mpr (zero i hi))
  simp only [restoreRegisterFile, State.requireSupervisor_of_supervisor supervisor]
  refine (State.image_operand h ha hp _).trans ?_
  rw [all]
  rfl

end

section
variable (s : State) (pas : List Nat)

theorem State.withRegisterFile_r (j : BitVec 4) : (s.withRegisterFile pas).r j = s.loadSlot pas j.toNat := by
  rw [← s.loadGprs_r pas]
  simp only [State.withRegisterFile, State.r, State.setPaging_gpr]

theorem State.withRegisterFile_mode : (s.withRegisterFile pas).mode = s.loadedMode (s.loadSlot pas 18) := by
  simp only [State.withRegisterFile]

/-- The machine-specific registers are loaded where the machine has them (48_supervisor.md R468). -/
theorem State.withRegisterFile_msr (i : Fin 7) :
    (s.withRegisterFile pas).msr[i] =
      if s.params.msrModel = .storage then s.loadSlot pas (148 + i.val) else s.msr[i] := by
  cases model : s.params.msrModel with
  | refuse =>
    have kept : s.loadMsrs pas = s.msr := by rw [State.loadMsrs, model]
    simp [State.withRegisterFile, kept]
  | storage =>
    have loaded : s.loadMsrs pas = Vector.ofFn fun i => s.loadSlot pas (148 + i.val) := by rw [State.loadMsrs, model]
    simp [State.withRegisterFile, loaded]

/-- A change of `cr1` or `cr0.PG` empties the page caches (10_state.md R46, R47). -/
theorem State.withRegisterFile_ptHistory
    (h : s.loadSlot pas 129 ≠ s.page ∨ (s.loadSlot pas 128).getLsbD 0 ≠ s.pg) :
    (s.withRegisterFile pas).ptHistory = [] := by
  have switched : (s.loadGprs pas).pg ≠ (s.loadSlot pas 128).getLsbD 0 ∨ (s.loadGprs pas).page ≠ s.loadSlot pas 129 := by
    rw [State.loadGprs_pg, State.loadGprs_page]
    exact h.symm.imp Ne.symm Ne.symm
  simp only [State.withRegisterFile, State.setPaging_record, switched, if_true]

/-- What loading a full image leaves (48_supervisor.md R467). -/
theorem State.withRegisterFile_frame :
    let u := s.withRegisterFile pas
    let slot := s.loadSlot pas
    u = { s with
          gpr := u.gpr, ip := slot 16, flags := slot 17 &&& 0x1F, mode := u.mode, cr0 := slot 128, page := slot 129,
          flprotect := slot 130, scdp := slot 131, scsp := slot 132, sccr := slot 133, itabp := slot 134,
          ciread := slot 135, fcode := slot 144, pfcharp := slot 145, msr := u.msr, codeView := u.codeView,
          syncOrder := u.syncOrder, ptHistory := u.ptHistory } := by
  simp only [State.withRegisterFile, State.setPaging_record, State.loadGprs, flagsMask]

end

/-- Settles O52: past its two checks of the slots, `rstregf` loads them all. -/
theorem Supervisor.restoreRegisterFile : Obligations.RestoreRegisterFile := by
  intro a s addr z pas supervisor h ha hp slot zero legal
  have reserved (i : Nat) (hi : i ∈ reservedSlots) : s.loadSlot pas i = 0 := by
    obtain ⟨lt, numbers⟩ := reservedSlots_cases hi
    exact zero i lt numbers
  have loads := restoreRegisterFile_of_zero supervisor h ha hp reserved
  constructor
  · intro checked
    rw [require_ok (u := ()).mpr ((s.controlSlotsLegal_iff pas).mpr checked)] at loads
    exact ⟨_, congrArg (finish s) loads, s.withRegisterFile_r pas, s.loadedMode_legal (slot 18),
      s.withRegisterFile_frame pas, s.withRegisterFile_msr pas, s.withRegisterFile_ptHistory pas⟩
  · intro illegal
    rw [Bool.eq_false_iff.mpr (mt (s.controlSlotsLegal_iff pas).mp illegal)] at loads
    exact congrArg (finish s) loads

end Sys2Proof.Machine
end

section
/-! PROOF. Delivery of exceptions, interrupts and asynchronous events (60_exceptions.md R480, R487, R501 to R517;
70_reset_and_hazards.md R542). -/

namespace Sys2Proof.Machine

/-! ### Translation does not look at `fcode` -/

section
variable (s : State) (v : Word) (xm : Bool) (kind : Access)

theorem State.physCheckRange_withFcode (pa n : Nat) : { s with fcode := v }.physCheckRange pa n = s.physCheckRange pa n := by
  induction n generalizing pa with
  | zero => rfl
  | succ n ih =>
    unfold State.physCheckRange
    rw [ih]
    rfl

theorem State.walk_withFcode (bits : Nat) (b : Word) (level t : Nat) (via : Word × Byte) (sxp : Bool) :
    { s with fcode := v }.walk xm kind bits b level t via sxp = s.walk xm kind bits b level t via sxp := by
  induction level generalizing t via sxp with
  | zero =>
    unfold State.walk
    simp only [State.physCheckRange_withFcode]
    rfl
  | succ level ih =>
    unfold State.walk
    simp only [State.physCheckRange_withFcode, ih]
    rfl

theorem State.translate_withFcode (b : Word) : { s with fcode := v }.translate xm kind b = s.translate xm kind b := by
  unfold State.translate State.translateVirtual
  simp only [State.walk_withFcode]
  rfl

theorem State.translateFrom_withFcode (first : Word) (n : Nat) (b : Word) :
    { s with fcode := v }.translateFrom xm kind first n b = s.translateFrom xm kind first n b := by
  induction n generalizing b with
  | zero => rfl
  | succ n ih =>
    unfold State.translateFrom
    rw [State.translate_withFcode, ih]
    rfl

theorem State.translateRange_withFcode (addr : Word) (n : Nat) :
    { s with fcode := v }.translateRange xm kind addr n = s.translateRange xm kind addr n :=
  s.translateFrom_withFcode v xm kind addr n addr

theorem State.tableEntry_withFcode (n : Nat) : { s with fcode := v }.tableEntry n = s.tableEntry n := by
  unfold State.tableEntry State.tableExtent State.readPhys
  simp only [State.physCheckRange_withFcode]
  rfl

theorem State.branchAllowed_withFcode (d : Word) :
    { s with fcode := v }.branchAllowed xm d ↔ s.branchAllowed xm d := by
  simp only [State.branchAllowed, State.translateRange_withFcode]

theorem State.canEnter_withFcode (n : Nat) (e : TableEntry) (pas : List Nat) :
    { s with fcode := v }.canEnter n e pas ↔ s.canEnter n e pas := by
  unfold State.canEnter
  rw [State.tableEntry_withFcode, State.branchAllowed_withFcode, State.translateRange_withFcode]
  rfl

theorem State.cannotService_withFcode (n : Nat) : { s with fcode := v }.cannotService n ↔ s.cannotService n := by
  unfold State.cannotService
  simp only [State.tableEntry_withFcode, State.translateRange_withFcode]
  rfl

end

/-! ### The entry sequence -/

section
variable {s : State} {n : Nat} {frame : List Word}

/-- A number whose entry, handler and frame pass their checks is entered (60_exceptions.md R504). -/
theorem State.enter_of_canEnter {e : TableEntry} {pas : List Nat} (h : s.canEnter n e pas) :
    s.enter n frame =
      .ok { ((s.jump e.handler).store pas (wordsBytes frame)).setR 7 (s.entryStack e - 32) with
            mode := supervisorMode s.mode, halted := false } := by
  obtain ⟨entry, handler, writable⟩ := h
  exact State.enter_ok.mpr ⟨e, pas, entry, writable, handler, rfl⟩

/-- What entering a handler leaves (60_exceptions.md R504). -/
theorem State.delivered_of_canEnter {e : TableEntry} {pas : List Nat} (h : s.canEnter n e pas) (length : frame.length = 4) :
    Delivered s { ((s.jump e.handler).store pas (wordsBytes frame)).setR 7 (s.entryStack e - 32) with
      mode := supervisorMode s.mode, halted := false } e pas frame := by
  obtain ⟨-, -, writable⟩ := h
  have bytes : (wordsBytes frame).length = 32 := by rw [wordsBytes_length, length]
  have stored : StoredOnly (s.jump e.handler) ((s.jump e.handler).store pas (wordsBytes frame)) pas (wordsBytes frame) :=
    ⟨State.storedAt_store _ writable bytes (by decide), rfl⟩
  obtain ⟨kept, stack, others, flags, mode, arrived, -⟩ :=
    stored.transfer (s := s) (sp := s.entryStack e - 32) (m := supervisorMode s.mode) (stores := [pas]) rfl
  exact ⟨kept, stack, others, flags, mode, arrived, rfl, rfl⟩

theorem State.enter_of_tableEntry_error {f : EntryFailure} (h : s.tableEntry n = .error f) :
    s.enter n frame = .error f := by
  rw [State.enter, h]
  rfl

/-- A misaligned table yields no entry (60_exceptions.md R507). -/
theorem State.tableEntry_of_misaligned (h : s.itabp.toNat % 32 ≠ 0) : s.tableEntry n = .error .misaligned := by
  have extent : s.tableExtent = .error .misaligned := if_pos h
  rw [State.tableEntry, extent]
  rfl

/-- A number that cannot be serviced fails as such (60_exceptions.md R507). -/
theorem State.enter_of_cannotService (h : s.cannotService n) : s.enter n frame = .error .unserviceable := by
  rcases h with unreadable | ⟨e, entry, refused⟩
  · exact State.enter_of_tableEntry_error unreadable
  · have fails : ∀ t, s.enter n frame ≠ .ok t := by
      intro t entered
      obtain ⟨e', pas, entry', writable, ⟨even, q, executable⟩, -⟩ := State.enter_ok.mp entered
      obtain rfl : e = e' := Except.ok.inj (entry.symm.trans entry')
      rcases refused with odd | ⟨f, notExecutable⟩ | ⟨f, notWritable⟩
      · exact absurd (odd.symm.trans even) (by decide)
      · exact absurd (notExecutable.symm.trans executable) nofun
      · exact absurd (notWritable.symm.trans writable) nofun
    simp only [State.enter, entry, bind, Except.bind] at fails ⊢
    split at fails
    · exact absurd rfl (fails _)
    · rfl

end

/-! ### Delivering a number -/

section
variable {s : State} {n : Nat} {sip : Word}

/-- A number that is entered (60_exceptions.md R504). -/
theorem State.deliver_of_enter_ok {t : State} (h : s.enter n (s.frame sip) = .ok t) : s.deliver n sip = t := by
  simp only [State.deliver, State.deliverException, h, ite_self]

/-- A misaligned table resets the CPU (60_exceptions.md R507). -/
theorem State.deliver_of_misaligned (h : s.itabp.toNat % 32 ≠ 0) : s.deliver n sip = s.cpuReset := by
  have fails : s.enter n (s.frame sip) = .error .misaligned :=
    State.enter_of_tableEntry_error (State.tableEntry_of_misaligned h)
  simp only [State.deliver, State.deliverException, fails, ite_self]

/-- An exception beyond the table becomes ABRT, and any other number PROT (60_exceptions.md R507). -/
theorem State.deliver_of_outOfBounds (h : s.tableEntry n = .error .outOfBounds) :
    s.deliver n sip = if n ≤ 15 then s.deliverAbort else { s with fcode := 0 }.deliver 2 sip := by
  have fails : s.enter n (s.frame sip) = .error .outOfBounds := State.enter_of_tableEntry_error h
  rw [State.deliver_of_le { s with fcode := 0 } (by decide)]
  simp only [State.deliver, State.deliverException, fails]

/-- A number that cannot be serviced becomes ABRT, but a Debug Trap is dropped (60_exceptions.md R507, R515). -/
theorem State.deliver_of_cannotService (h : s.cannotService n) :
    s.deliver n sip = if n = 16 then s.jump sip else s.deliverAbort := by
  have fails : s.enter n (s.frame sip) = .error .unserviceable := State.enter_of_cannotService h
  by_cases exception : n ≤ 15
  · rw [State.deliver_of_le s exception, if_neg (by omega)]
    simp only [State.deliverException, fails]
  · simp only [State.deliver, exception, fails, if_false]

/-- ABRT that is entered. -/
theorem State.deliverAbort_of_enter_ok {t : State} (h : { s with fcode := 0 }.enter 0 s.abortFrame = .ok t) :
    s.deliverAbort = t := by
  simp only [State.deliverAbort, h]

/-- ABRT that cannot be entered resets the CPU (60_exceptions.md R507). -/
theorem State.deliverAbort_of_enter_error {f : EntryFailure}
    (h : { s with fcode := 0 }.enter 0 s.abortFrame = .error f) : s.deliverAbort = s.cpuReset := by
  simp only [State.deliverAbort, h]

end

/-- Settles O42: the entry sequence answers or fails as the table and the checks say, whatever `fcode` holds. -/
theorem deliveryCompletes : Obligations.DeliveryCompletes := by
  intro s misaligned
  refine ⟨fun n sip e pas enters => ?entered, fun n sip => State.deliver_of_misaligned,
    fun n sip => State.deliver_of_outOfBounds, fun n sip => State.deliver_of_cannotService, fun e pas enters => ?aborted,
    ?failed, rfl⟩
  case entered =>
    rw [State.deliver_of_enter_ok (State.enter_of_canEnter enters)]
    exact State.delivered_of_canEnter enters rfl
  case aborted =>
    have enters' := (s.canEnter_withFcode 0 0 e pas).mpr enters
    have four : s.abortFrame.length = 4 := by simp [State.abortFrame]
    refine ⟨s.abortFrame, four, ?_⟩
    rw [State.deliverAbort_of_enter_ok (State.enter_of_canEnter enters')]
    exact State.delivered_of_canEnter enters' four
  case failed =>
    have fails {f : EntryFailure} (h : s.tableEntry 0 = .error f) : s.deliverAbort = s.cpuReset :=
      State.deliverAbort_of_enter_error (State.enter_of_tableEntry_error ((s.tableEntry_withFcode 0 0).trans h))
    rintro (h | h | h)
    · exact fails (State.tableEntry_of_misaligned h)
    · exact fails h
    · exact State.deliverAbort_of_enter_error (State.enter_of_cannotService ((s.cannotService_withFcode 0 0).mpr h))

/-! ### Exceptions -/

/-- Settles O43: each exception writes `fcode` and is delivered; a page fault with no record is delivered at once. -/
theorem exceptionEntry : Obligations.ExceptionEntry := by
  intro s
  have delivered (v : Word) {n : Nat} (h : n ≤ 15) :
      { s with fcode := v }.deliverException n s.ip = { s with fcode := v }.deliver n s.ip :=
    (State.deliver_of_le _ h _).symm
  refine ⟨⟨_, delivered _ (by decide)⟩, delivered 0 (by decide), fun f noRecord => ?_, fun a => delivered a (by decide),
    ⟨_, delivered _ (by decide)⟩⟩
  have record : s.takeException (.pf f) = { s with fcode := f.addr }.deliverException 3 s.ip := if_pos noRecord
  rw [record, delivered _ (by decide)]

/-! ### Asynchronous events -/

/-- A step takes the event there is (60_exceptions.md R517). -/
theorem step_of_event {s : State} {e : Event} (h : s.nextEvent = some e) :
    step s = .next { s.takeEvent e with draws := s.draws + 1 } := by
  simp only [step, h]

section
variable {s : State} (free : s.eventsHeld = false)
include free

/-- An injected number comes first, on a CPU that is not halted (60_exceptions.md R517, R528; log 33). -/
theorem State.nextEvent_of_injected (h : s.injected ≠ 0) (running : s.halted = false) :
    s.nextEvent = some (.injected s.injected.toNat) := by
  rw [State.nextEvent, free, if_neg Bool.false_ne_true, if_pos ⟨h, running⟩]

section
variable (waits : s.injected = 0 ∨ s.halted = true)
include waits

/-- Without an injected number to take, the NMI comes first, and then the requests, if `cr0.IE` is set
(60_exceptions.md R511 to R513, R517). -/
theorem State.nextEvent_of_no_injected :
    s.nextEvent = if s.pendingNmi then some .nmi else if s.ie then s.lowestIrq.map .irq else none := by
  have noInjected : ¬(s.injected ≠ 0 ∧ s.halted = false) := fun ⟨h, running⟩ =>
    waits.elim h fun halted => absurd (halted.symm.trans running) (by decide)
  rw [State.nextEvent, free, if_neg Bool.false_ne_true, if_neg noInjected]

end

end

/-- The lowest pending request (60_exceptions.md R517). -/
theorem State.lowestIrq_of_lowest {s : State} {k : Nat} (hk : k < 32) (pending : s.pendingIrq.getLsbD k = true)
    (lowest : ∀ j, j < k → s.pendingIrq.getLsbD j = false) : s.lowestIrq = some k := by
  rw [State.lowestIrq, List.find?_range_eq_some]
  exact ⟨pending, List.mem_range.mpr hk, fun j hj => by rw [lowest j hj]; rfl⟩

/-- No request is pending. -/
theorem State.lowestIrq_of_none {s : State} (h : s.pendingIrq = 0) : s.lowestIrq = none := by
  rw [State.lowestIrq, List.find?_eq_none]
  intro k _
  simp [h]

/-- What taking an injected number leaves before the delivery: its `fcode` is 0 for PROT, kept from 16 up, and free otherwise
(60_exceptions.md R487; log 14). -/
theorem State.takeEvent_injected (s : State) (n : Nat) :
    s.takeEvent (.injected n) =
      { s with eventsHeld := true, injected := 0, fcode := if n ≤ 15 then s.injectedFcode n else s.fcode }.deliver n s.ip := by
  simp only [State.takeEvent]
  split <;> rfl

/-- Settles O54: the three kinds of event in their order. -/
theorem eventsTaken : Obligations.EventsTaken := by
  intro s free taken
  refine ⟨fun injected running => ?_, fun waits => ?_⟩
  · have event := step_of_event (State.nextEvent_of_injected free injected running)
    rw [State.takeEvent_injected] at event
    refine ⟨_, fun trap => if_neg (by omega), fun prot => ?_, event⟩
    rw [prot]
    rfl
  · have next := State.nextEvent_of_no_injected free waits
    refine ⟨fun nmi => ⟨_, step_of_event (next.trans (if_pos nmi))⟩, fun noNmi => ?_⟩
    replace next := next.trans (if_neg (ne_true_of_eq_false noNmi))
    refine ⟨fun k hk enabled pending lowest => step_of_event (e := .irq k) (next.trans ?_), fun masked => next.trans ?_⟩
    · rw [if_pos enabled, State.lowestIrq_of_lowest hk pending lowest]
      rfl
    · rcases masked with disabled | nothing
      · exact if_neg (ne_true_of_eq_false disabled)
      · rw [State.lowestIrq_of_none nothing]
        exact ite_self _

end Sys2Proof.Machine
end

section
/-! PROOF. The I/O devices: `in` and `out` (48_supervisor.md R462, R463; 60_exceptions.md R526 to R532). -/

namespace Sys2Proof.Machine

/-! ### The device at an address -/

/-- The device of CPU `n` of one kind; a CPU that the machine does not have has none (60_exceptions.md R527). -/
def State.cpuDevice (s : State) (n : Nat) (d : Fin 128 → Device) : Device :=
  if h : n < 128 then (if n < s.params.ncpu then d ⟨n, h⟩ else .absent) else .absent

theorem State.device_eq (s : State) (addr : Word) :
    s.device addr =
      if addr.toNat = 0xfe80 then .cpuCount
      else if 0x7f00 ≤ addr.toNat ∧ addr.toNat < 0x7f80 then s.cpuDevice (addr.toNat - 0x7f00) fun n => .cpuInfo n.val
      else if 0xff00 ≤ addr.toNat ∧ addr.toNat < 0xff80 then s.cpuDevice (addr.toNat - 0xff00) .loadPointer
      else if 0xff80 ≤ addr.toNat ∧ addr.toNat < 0x10000 then s.cpuDevice (addr.toNat - 0xff80) .enableWord
      else if s.params.hasDevice addr.toNat then .machine
      else .absent := rfl

section
variable {s : State} {addr : Word}

theorem State.cpuDevice_of_lt {n : Fin 128} (h : n.val < s.params.ncpu) (d : Fin 128 → Device) :
    s.cpuDevice n.val d = d n := by
  rw [State.cpuDevice, dif_pos n.isLt, if_pos h]

theorem State.cpuDevice_of_le {n : Nat} (h : s.params.ncpu ≤ n) (d : Fin 128 → Device) : s.cpuDevice n d = .absent := by
  unfold State.cpuDevice
  split
  · exact if_neg (Nat.not_lt.mpr h)
  · rfl

/-- The count of CPUs (60_exceptions.md R526). -/
theorem State.device_cpuCount (h : addr.toNat = 0xfe80) : s.device addr = .cpuCount := by
  rw [s.device_eq, if_pos h]

section
variable {n : Nat} (hn : n < 128)
include hn

/-- The cpuinfo query (60_exceptions.md R532). -/
theorem State.device_query (h : addr.toNat = 0x7f00 + n) : s.device addr = s.cpuDevice n fun n => .cpuInfo n.val := by
  rw [s.device_eq, if_neg (by omega), if_pos (by omega), h, Nat.add_sub_cancel_left]

/-- The register load pointers (60_exceptions.md R529). -/
theorem State.device_loadPointer (h : addr.toNat = 0xff00 + n) : s.device addr = s.cpuDevice n .loadPointer := by
  rw [s.device_eq, if_neg (by omega), if_neg (by omega), if_pos (by omega), h, Nat.add_sub_cancel_left]

/-- The CPU Enable Control Words (60_exceptions.md R528). -/
theorem State.device_enableWord (h : addr.toNat = 0xff80 + n) : s.device addr = s.cpuDevice n .enableWord := by
  rw [s.device_eq, if_neg (by omega), if_neg (by omega), if_neg (by omega), if_pos (by omega), h, Nat.add_sub_cancel_left]

end

/-- Everywhere else only a device of the machine answers (60_exceptions.md R527). -/
theorem State.device_elsewhere
    (h : addr.toNat < 0x7f00 ∨ (0x7f80 ≤ addr.toNat ∧ addr.toNat < 0xff00 ∧ addr.toNat ≠ 0xfe80) ∨ 0x10000 ≤ addr.toNat) :
    s.device addr = if s.params.hasDevice addr.toNat then .machine else .absent := by
  rw [s.device_eq, if_neg (by omega), if_neg (by omega), if_neg (by omega), if_neg (by omega)]

/-- A device of the machine has an address of at least 2^32 in one of its ranges (20_memory.md R86). -/
theorem Params.hasDevice_iff (p : Params) (a : Nat) :
    p.hasDevice a = true ↔ 2 ^ 32 ≤ a ∧ ∃ r ∈ p.ioDevices, r.1 ≤ a ∧ a < r.1 + r.2 := by
  simp only [Params.hasDevice, Bool.and_eq_true, decide_eq_true_eq, List.any_eq_true]

/-- No device answers at a reserved address, one of a CPU the machine does not have, or one of no device of the machine
(60_exceptions.md R527). -/
theorem State.device_of_noDevice (h : s.noDevice addr.toNat) : s.device addr = .absent := by
  have absent (elsewhere : addr.toNat < 0x7f00 ∨ (0x7f80 ≤ addr.toNat ∧ addr.toNat < 0xff00 ∧ addr.toNat ≠ 0xfe80) ∨
      0x10000 ≤ addr.toNat) (none : ¬(2 ^ 32 ≤ addr.toNat ∧ ∃ r ∈ s.params.ioDevices, r.1 ≤ addr.toNat ∧
      addr.toNat < r.1 + r.2)) : s.device addr = .absent :=
    (State.device_elsewhere elsewhere).trans (if_neg (mt (s.params.hasDevice_iff _).mp none))
  rcases h with low | middle | high | ⟨wide, outside⟩ | ⟨n, hn, missing, query | pointer | word⟩
  · exact absent (.inl low) fun ⟨wide, _⟩ => by omega
  · exact absent (.inr (.inl middle)) fun ⟨wide, _⟩ => by omega
  · exact absent (.inr (.inr high.1)) fun ⟨wide, _⟩ => by omega
  · exact absent (.inr (.inr (by omega))) fun ⟨_, r, hr, inside⟩ => by have := outside r hr; omega
  · exact (State.device_query hn query).trans (State.cpuDevice_of_le missing _)
  · exact (State.device_loadPointer hn pointer).trans (State.cpuDevice_of_le missing _)
  · exact (State.device_enableWord hn word).trans (State.cpuDevice_of_le missing _)

/-- From 2^32 up there is a device of the machine or none (20_memory.md R86). -/
theorem State.device_of_wide (h : 2 ^ 32 ≤ addr.toNat) : s.device addr = .machine ∨ s.device addr = .absent := by
  rw [State.device_elsewhere (.inr (.inr (by omega)))]
  split
  · exact .inl rfl
  · exact .inr rfl

end

/-! ### Reading a device -/

/-- A value read has at most the bits of the access (48_supervisor.md R462). -/
theorem State.ioRead_lt (s : State) (addr : Word) (z : Size) : (s.ioRead addr z).toNat < 2 ^ z.bits := by
  have free : (truncBits z.bits (Config.deviceRead s.draws)).toNat < 2 ^ z.bits := truncBits_lt _ _
  have whole (v : Word) (h : z = .b8) : v.toNat < 2 ^ z.bits := h ▸ v.isLt
  unfold State.ioRead
  cases s.device addr with
  | absent => exact Nat.two_pow_pos _
  | cpuCount =>
    simp only
    split
    next h => subst h; exact truncBits_lt _ _
    next => exact free
  | cpuInfo n => exact free
  | machine => exact free
  | loadPointer n =>
    simp only
    split
    next h => exact whole _ h
    next => exact free
  | enableWord n =>
    simp only
    split
    next h => exact whole _ h.1
    next => exact free

/-- `in` in supervisor mode (48_supervisor.md R462). -/
theorem readDevice_of_supervisor {s : State} (h : s.xm = false) (z : Size) :
    let v := s.ioRead (s.r 2) z
    readDevice z s =
      .ok { s.setR 0 v with
            flags := setP (setZN s.flags v z.bits) v z.bits, syncOrder := .io :: s.syncOrder, ip := s.ip + 2 } :=
  Result.bind_ok.mpr ⟨(), State.requireSupervisor_of_supervisor h, rfl⟩

/-- Settles O49: the value is read off the device at the address. -/
theorem deviceRead : Obligations.DeviceRead := by
  intro z s supervisor a
  refine ⟨s.ioRead (s.r 2) z, s.ioRead_lt _ z, congrArg (finish s) (readDevice_of_supervisor supervisor z), ?none, ?count,
    fun n present wide => ⟨?pointer, ?word⟩⟩
  case none =>
    intro h
    rw [State.ioRead, State.device_of_noDevice h]
  case count =>
    rintro h rfl
    rw [State.ioRead, State.device_cpuCount h]
    simp
  case pointer =>
    intro h
    rw [State.ioRead, State.device_loadPointer n.isLt h, State.cpuDevice_of_lt present]
    exact if_pos wide
  case word =>
    intro h inactive
    rw [State.ioRead, State.device_enableWord n.isLt h, State.cpuDevice_of_lt present]
    exact if_pos ⟨wide, inactive⟩

/-! ### Writing a device -/

/-- The state after `out` has written a device (48_supervisor.md R463). -/
def State.afterOut (s t : State) : State := { t with syncOrder := .io :: t.syncOrder, ip := s.ip + 2 }

section
variable {s : State} {addr v : Word} {n : Fin 128} {z : Size}

/-- `out` in supervisor mode (48_supervisor.md R463). -/
theorem execOut_of_supervisor (h : s.xm = false) (z : Size) :
    exec (.ioOut z) s =
      finish s (s.ioWrite (s.r 2) z (truncBits z.bits (s.r 0)) >>= fun t => .ok (s.afterOut t)) := by
  change finish s (writeDevice z s) = _
  rw [writeDevice, State.requireSupervisor_of_supervisor h]
  rfl

/-- `out` of 8 bytes, by what its device answers. -/
theorem execOut_of_answer (h : s.xm = false) {x : Result} (answer : s.ioWrite (s.r 2) .b8 (s.r 0) = x) :
    exec (.ioOut .b8) s = finish s (x >>= fun t => .ok (s.afterOut t)) := by
  have whole : truncBits (Size.bits .b8) (s.r 0) = s.r 0 := truncBits_64 _
  rw [execOut_of_supervisor h, whole, answer]

/-- A write that no device takes notice of (60_exceptions.md R527, U22; log 29). -/
theorem State.ioWrite_ignored
    (h : s.device addr = .absent ∨ s.device addr = .cpuCount ∨ s.device addr = .machine ∨ z ≠ .b8) :
    s.ioWrite addr z v = .ok s := by
  unfold State.ioWrite
  split
  next wide =>
    rcases h with h | h | h | narrow
    · rw [h]
    · rw [h]
    · rw [h]
    · exact absurd wide narrow
  next => rfl

section
variable (present : n.val < s.params.ncpu)
include present

theorem State.ioWrite_loadPointer (h : addr.toNat = 0xff00 + n.val) : s.ioWrite addr .b8 v = s.writeLoadPointer n v := by
  rw [State.ioWrite, if_pos rfl, State.device_loadPointer n.isLt h, State.cpuDevice_of_lt present]

theorem State.ioWrite_enableWord (h : addr.toNat = 0xff80 + n.val) : s.ioWrite addr .b8 v = s.writeEnableWord n v := by
  rw [State.ioWrite, if_pos rfl, State.device_enableWord n.isLt h, State.cpuDevice_of_lt present]

theorem State.ioWrite_query (h : addr.toNat = 0x7f00 + n.val) : s.ioWrite addr .b8 v = s.queryCpuInfo n.val v := by
  rw [State.ioWrite, if_pos rfl, State.device_query n.isLt h, State.cpuDevice_of_lt present]

end

/-! ### Register load pointers -/

theorem State.physCheck_eq_outOfRange_iff (s : State) (p : Nat) :
    s.physCheck p = .outOfRange ↔ 2 ^ (32 + 4 * s.pas) ≤ p := by
  unfold State.physCheck
  split_ifs <;> simp_all

/-- The load pointer of a CPU that is not enabled (60_exceptions.md R529). -/
theorem State.writeLoadPointer_of_disabled (disabled : s.cpuEnabled n = false) (h : v.toNat < 2 ^ (32 + 4 * s.pas)) :
    s.writeLoadPointer n v = .ok { s with loadPointer := s.loadPointer.set n v } := by
  refine if_neg ?_
  rw [disabled, State.physCheck_eq_outOfRange_iff]
  simpa using h

/-- The load pointer of an enabled CPU, and an out-of-range one (60_exceptions.md R529; log 30). -/
theorem State.writeLoadPointer_of_undefined (h : s.cpuEnabled n = true ∨ 2 ^ (32 + 4 * s.pas) ≤ v.toNat) :
    s.writeLoadPointer n v = .error (.fault .undefinedCpuControl) :=
  if_pos (h.imp_right (s.physCheck_eq_outOfRange_iff _).mpr)

/-! ### The start-up block -/

/-- A range of physical addresses is valid when each of them is (20_memory.md R100). -/
theorem State.physCheckRange_valid_iff (s : State) (pa n : Nat) :
    s.physCheckRange pa n = .valid ↔ ∀ p ∈ (List.range n).map (pa + ·), s.physCheck p = .valid := by
  induction n generalizing pa with
  | zero => simp [State.physCheckRange]
  | succ n ih =>
    have shift : (List.range n).map ((pa + ·) ∘ Nat.succ) = (List.range n).map (pa + 1 + ·) :=
      List.map_congr_left fun i _ => by simp only [Function.comp_apply]; omega
    rw [List.range_succ_eq_map, List.map_cons, List.map_map, shift, List.forall_mem_cons, ← ih, State.physCheckRange,
      Nat.add_zero]
    cases s.physCheck pa <;> simp

/-- The slots of a start-up block that must be 0 (60_exceptions.md R530). -/
theorem startUpReserved_iff {i : Nat} (h : i < 256) :
    startUpReserved i = true ↔
      (19 ≤ i ∧ i ≤ 127) ∨ (136 ≤ i ∧ i ≤ 143) ∨ i = 146 ∨ i = 147 ∨ (155 ≤ i ∧ i < 256) := by
  have number : (BitVec.ofNat 8 i).toNat = i := Nat.mod_eq_of_lt h
  rw [startUpReserved, Bool.or_eq_true, beq_iff_eq, beq_iff_eq, regClass_eq_reserved_iff, regClass_eq_cpuInfo_iff, number]
  omega

/-- The valid values of a start-up block (60_exceptions.md R530). -/
theorem startUpValid_iff (n : Nat) (slot : Nat → Word) :
    startUpValid n slot = true ↔
      (slot 16).getLsbD 0 = false ∧ (slot 17 &&& ~~~0x1F#64) = 0 ∧ (slot 128 &&& ~~~0x3B#64) = 0 ∧
        ptlOf (slot 128) ≤ otherVas n ∧ (slot 130 &&& ~~~0x1F#64) = 0 ∧ (slot 133 &&& ~~~0x2#64) = 0 ∧
        (slot 135 &&& ~~~0xFF#64) = 0 := by
  simp only [startUpValid, flagsMask, Bool.and_eq_true, Bool.not_eq_true', beq_iff_eq, decide_eq_true_eq, and_assoc]
  exact Iff.rfl

/-- The block at the load pointer of a CPU (60_exceptions.md R529, R530). -/
def State.startUpBlock (s : State) (n : Fin 128) : List Nat := (List.range 2048).map (s.loadPointer[n].toNat + ·)

theorem State.startUpBlock_valid_iff (s : State) (n : Fin 128) :
    s.physCheckRange s.loadPointer[n].toNat 2048 = .valid ↔ ∀ p ∈ s.startUpBlock n, s.physCheck p = .valid := by
  rw [State.physCheckRange_valid_iff, State.startUpBlock]

theorem State.startUpRegisters_of_unreadable (h : ∃ p ∈ s.startUpBlock n, s.physCheck p ≠ .valid) :
    s.startUpRegisters n = .error (.fault .undefinedCpuControl) := by
  obtain ⟨p, inBlock, invalid⟩ := h
  have fails := mt (s.startUpBlock_valid_iff n).mp fun all => invalid (all p inBlock)
  simp only [State.startUpRegisters]

section
variable (readable : ∀ p ∈ s.startUpBlock n, s.physCheck p = .valid)
include readable

/-- The registers that a readable block holds, if its slots allow it (60_exceptions.md R530). -/
theorem State.startUpRegisters_of_readable :
    s.startUpRegisters n =
      if (List.range 256).any fun i => startUpReserved i && s.loadSlot (s.startUpBlock n) i != 0 then
        .error (.refuse (.startUpBlock n.val))
      else if startUpValid n.val (s.loadSlot (s.startUpBlock n)) then
        .ok ((List.range 256).map (s.loadSlot (s.startUpBlock n)))
      else .error (.fault .undefinedCpuControl) := by
  have valid : s.physCheckRange s.loadPointer[n].toNat 2048 = .valid := (s.startUpBlock_valid_iff n).mpr readable
  simp only [State.startUpRegisters, valid]
  rfl

/-- A block with a slot that must be 0 and is not (60_exceptions.md R530, U24; log 43). -/
theorem State.startUpRegisters_of_reserved {i : Nat} (hi : i < 256) (reserved : startUpReserved i = true)
    (nonzero : s.loadSlot (s.startUpBlock n) i ≠ 0) :
    s.startUpRegisters n = .error (.refuse (.startUpBlock n.val)) := by
  refine (State.startUpRegisters_of_readable readable).trans (if_pos (List.any_eq_true.mpr ⟨i, List.mem_range.mpr hi, ?_⟩))
  rw [reserved, Bool.true_and]
  exact bne_iff_ne.mpr nonzero

/-- A block whose reserved slots are 0: its values decide (60_exceptions.md R530, U18; log 43). -/
theorem State.startUpRegisters_of_zero
    (zero : ∀ i < 256, startUpReserved i = true → s.loadSlot (s.startUpBlock n) i = 0) :
    s.startUpRegisters n =
      if startUpValid n.val (s.loadSlot (s.startUpBlock n)) then
        .ok ((List.range 256).map (s.loadSlot (s.startUpBlock n)))
      else .error (.fault .undefinedCpuControl) := by
  refine (State.startUpRegisters_of_readable readable).trans (if_neg fun found => ?_)
  obtain ⟨i, hi, both⟩ := List.any_eq_true.mp found
  rw [Bool.and_eq_true] at both
  exact bne_iff_ne.mp both.2 (zero i (List.mem_range.mp hi) both.1)

end

/-! ### Enable words -/

/-- The two lowest bits of a word. -/
theorem toNat_mod_four_eq_two_iff (v : Word) : v.toNat % 4 = 2 ↔ v.getLsbD 0 = false ∧ v.getLsbD 1 = true := by
  simp only [BitVec.getLsbD, Nat.testBit_eq_decide_div_mod_eq, decide_eq_true_eq, decide_eq_false_iff_not]
  omega

theorem field_low2_eq_three_iff (v : Word) : field v 0 2 = 3 ↔ v.toNat % 4 = 3 := by
  simp [← BitVec.toNat_inj]

theorem field_above8_eq_zero_iff (v : Word) : field v 8 56 = 0 ↔ v.toNat < 256 := by
  have := v.isLt
  simp [← BitVec.toNat_inj, Nat.shiftRight_eq_div_pow]
  omega

/-- The Exception field of a word that keeps an active CPU enabled and active is 0 in the word 3 only (60_exceptions.md R528). -/
theorem exceptionField_eq_zero_iff {v : Word} (low : v.toNat % 4 = 3) (high : v.toNat < 256) :
    exceptionField v = 0 ↔ v = 3 := by
  simp [exceptionField, ← BitVec.toNat_inj, Nat.shiftRight_eq_div_pow]
  omega

section
variable (inactive : s.cpuActive n = false)
include inactive

/-- An invalid word for an inactive CPU (60_exceptions.md R528; log 30). -/
theorem State.writeEnableWord_of_invalid (h : v.toNat % 4 = 2 ∨ (v.getLsbD 0 = true ∧ field v 8 48 ≠ 0)) :
    s.writeEnableWord n v = .error (.fault .undefinedCpuControl) := by
  rw [State.writeEnableWord, if_neg (ne_true_of_eq_false inactive)]
  rcases h with active | reserved
  · exact if_pos ((toNat_mod_four_eq_two_iff v).mp active)
  · rw [if_pos reserved, ite_self]

section
variable (valid : ¬(v.toNat % 4 = 2 ∨ (v.getLsbD 0 = true ∧ field v 8 48 ≠ 0)))
include valid

/-- A valid word that does not enable a disabled CPU is stored (60_exceptions.md R528). -/
theorem State.writeEnableWord_of_not_enabling (h : ¬(v.getLsbD 0 = true ∧ s.cpuEnabled n = false)) :
    s.writeEnableWord n v = .ok { s with enableWord := s.enableWord.set n v } := by
  obtain ⟨noActive, noReserved⟩ := not_or.mp valid
  rw [State.writeEnableWord, if_neg (ne_true_of_eq_false inactive),
    if_neg (mt (toNat_mod_four_eq_two_iff v).mpr noActive), if_neg noReserved, if_neg h]

/-- A valid word that enables a disabled CPU makes it load its registers (60_exceptions.md R530, R531). -/
theorem State.writeEnableWord_of_enabling (h : v.getLsbD 0 = true ∧ s.cpuEnabled n = false) :
    s.writeEnableWord n v =
      (s.startUpRegisters n >>= fun registers =>
        .ok { s with enableWord := s.enableWord.set n v, startUp := s.startUp.set n registers }) := by
  obtain ⟨noActive, noReserved⟩ := not_or.mp valid
  rw [State.writeEnableWord, if_neg (ne_true_of_eq_false inactive),
    if_neg (mt (toNat_mod_four_eq_two_iff v).mpr noActive), if_neg noReserved, if_pos h]

end

end

/-- CPU 0 executes, and is active (60_exceptions.md R528). -/
theorem State.cpuActive_zero (h : n.val = 0) : s.cpuActive n = true := by
  simp [State.cpuActive, h]

/-- The word of CPU 0 with Enable and Active and only the Exception field besides injects a number (60_exceptions.md R517,
R528). -/
theorem State.writeEnableWord_zero (h : n.val = 0) (low : v.toNat % 4 = 3) (high : v.toNat < 256) :
    s.writeEnableWord n v = .ok { s with injected := if v = 3 then s.injected else field v 2 6 } := by
  have legal : ¬(field v 0 2 ≠ 3 ∨ field v 8 56 ≠ 0) := by
    rw [ne_eq, ne_eq, field_low2_eq_three_iff, field_above8_eq_zero_iff]
    omega
  rw [State.writeEnableWord, if_pos (State.cpuActive_zero h), if_neg legal, if_pos h]
  by_cases none : v = 3
  · rw [if_pos ((exceptionField_eq_zero_iff low high).mpr none), if_pos none]
  · rw [if_neg (mt (exceptionField_eq_zero_iff low high).mp none), if_neg none]
    rfl

/-- Any other word for CPU 0 (60_exceptions.md R528, U17, U26; log 30). -/
theorem State.writeEnableWord_zero_of_undefined (h : n.val = 0) (other : v.toNat % 4 ≠ 3 ∨ 256 ≤ v.toNat) :
    s.writeEnableWord n v = .error (.fault .undefinedCpuControl) := by
  have illegal : field v 0 2 ≠ 3 ∨ field v 8 56 ≠ 0 := by
    rw [ne_eq, ne_eq, field_low2_eq_three_iff, field_above8_eq_zero_iff]
    omega
  rw [State.writeEnableWord, if_pos (State.cpuActive_zero h), if_pos illegal]

/-! ### The cpuinfo query -/

/-- Valid physical addresses are answered in their order (60_exceptions.md R532). -/
theorem State.physAddresses_of_valid (s : State) (kind : Access) {pa k : Nat}
    (h : ∀ i < k, s.physCheck (pa + i) = .valid) :
    s.physAddresses kind pa k = .ok ((List.range k).map (pa + ·)) := by
  induction k generalizing pa with
  | zero => rfl
  | succ k ih =>
    have shift : (List.range k).map ((pa + ·) ∘ Nat.succ) = (List.range k).map (pa + 1 + ·) :=
      List.map_congr_left fun i _ => by simp only [Function.comp_apply]; omega
    have rest := ih (pa := pa + 1) fun i hi => by
      rw [show pa + 1 + i = pa + (i + 1) by omega]
      exact h (i + 1) (by omega)
    have first : s.physCheck pa = .valid := h 0 (by omega)
    rw [List.range_succ_eq_map, List.map_cons, List.map_map, shift, State.physAddresses, first, rest]
    rfl

/-- The first invalid address is the one the page fault reports (60_exceptions.md R532; log 30). -/
theorem State.physAddresses_of_invalid (s : State) (kind : Access) {pa k i : Nat} (hi : i < k)
    (invalid : s.physCheck (pa + i) ≠ .valid) (first : ∀ j < i, s.physCheck (pa + j) = .valid) :
    ∃ f, f.addr = BitVec.ofNat 64 (pa + i) ∧ s.physAddresses kind pa k = .error f := by
  induction k generalizing pa i with
  | zero => omega
  | succ k ih =>
    cases i with
    | zero =>
      unfold State.physAddresses
      cases bad : s.physCheck pa with
      | valid => exact absurd bad invalid
      | outOfRange | absent => exact ⟨_, rfl, rfl⟩
    | succ i =>
      have here : s.physCheck pa = .valid := first 0 (by omega)
      have shift (j : Nat) : pa + 1 + j = pa + (j + 1) := by omega
      obtain ⟨f, addr, fails⟩ := ih (pa := pa + 1) (i := i) (by omega) (by rwa [shift]) fun j hj => by
        rw [shift]; exact first (j + 1) (by omega)
      rw [shift] at addr
      refine ⟨f, addr, ?_⟩
      rw [State.physAddresses, here, fails]
      rfl

/-- What every CPU reports in `cpuex2`: present, with reserved bits 0 and VAS at most 4 (10_state.md R55; log 30). -/
theorem cpuex2_fields (w : Word) {vas : Nat} (h : vas ≤ 4) :
    let ex2 : Word := 1 ||| ((w &&& 7) <<< 2) ||| (BitVec.ofNat 64 vas <<< 5)
    (ex2 &&& ~~~0xFC#64) = 1 ∧ (field ex2 5 3).toNat ≤ 4 := by
  have small : ∀ k < 8, ∀ vas < 5,
      let ex2 : Word := 1 ||| (BitVec.ofNat 64 k <<< 2) ||| (BitVec.ofNat 64 vas <<< 5)
      (ex2 &&& ~~~0xFC#64) = 1 ∧ (field ex2 5 3).toNat ≤ 4 := by decide
  have low : w &&& 7 = BitVec.ofNat 64 (w.toNat % 8) := by
    apply BitVec.eq_of_toNat_eq
    rw [BitVec.toNat_and, BitVec.toNat_ofNat, Nat.mod_eq_of_lt (by omega)]
    exact Nat.and_two_pow_sub_one_eq_mod w.toNat 3
  rw [low]
  exact small _ (Nat.mod_lt _ (by decide)) vas (by omega)

/-- Another CPU reports eight values of which `cpuex3` to `cpuex6` are 0 (10_state.md R56; log 30). -/
theorem otherCpuInfo_spec (n : Nat) :
    ∃ lo hi ex2 ms : Word, otherCpuInfo n = [lo, hi, ex2, 0, 0, 0, 0, ms] ∧
      (ex2 &&& ~~~0xFC#64) = 1 ∧ (field ex2 5 3).toNat ≤ 4 :=
  ⟨_, _, _, _, rfl, cpuex2_fields _ (Nat.le_of_lt_succ (Nat.mod_lt _ (by decide)))⟩

theorem State.cpuInfoOf_length (s : State) (n : Nat) : (s.cpuInfoOf n).length = 8 := by
  unfold State.cpuInfoOf
  split <;> rfl

/-- A query stores the registers of its CPU at consecutive physical addresses (60_exceptions.md R532). -/
theorem State.queryCpuInfo_of_valid {k : Nat} (h : ∀ i < 64, s.physCheck (v.toNat + i) = .valid) :
    s.queryCpuInfo k v = .ok (s.store ((List.range 64).map (v.toNat + ·)) (wordsBytes (s.cpuInfoOf k))) := by
  rw [State.queryCpuInfo, State.physAddresses_of_valid s .write h]
  rfl

theorem State.storedAt_query (s : State) (pa k : Nat) :
    StoredAt s (s.store ((List.range 64).map (pa + ·)) (wordsBytes (s.cpuInfoOf k))) ((List.range 64).map (pa + ·))
      (wordsBytes (s.cpuInfoOf k)) := by
  have distinct : ((List.range 64).map (pa + ·)).Nodup := List.nodup_range.map fun _ _ => Nat.add_left_cancel
  have length : ((List.range 64).map (pa + ·)).length = (wordsBytes (s.cpuInfoOf k)).length := by
    rw [wordsBytes_length, s.cpuInfoOf_length, List.length_map, List.length_range]
  exact ⟨s.bytesAt_store _ _ distinct length, s.get_store_of_notMem _ _⟩

theorem State.queryCpuInfo_of_invalid {k i : Nat} (hi : i < 64) (invalid : s.physCheck (v.toNat + i) ≠ .valid)
    (first : ∀ j < i, s.physCheck (v.toNat + j) = .valid) :
    ∃ f, f.addr.toNat = (v.toNat + i) % 2 ^ 64 ∧ s.queryCpuInfo k v = raise (.pf f) := by
  obtain ⟨f, addr, fails⟩ := State.physAddresses_of_invalid s .write hi invalid first
  refine ⟨f, by rw [addr, BitVec.toNat_ofNat], ?_⟩
  rw [State.queryCpuInfo, fails]
  rfl

end

/-- Settles O50: the device at the address decides what a write of 8 bytes does. -/
theorem deviceWrite : Obligations.DeviceWrite := by
  intro z s supervisor done stop v a
  refine ⟨fun ignored => ?ignored, fun n present wide => ?devices⟩
  case ignored =>
    have silent : s.device (s.r 2) = .absent ∨ s.device (s.r 2) = .cpuCount ∨ s.device (s.r 2) = .machine ∨ z ≠ .b8 := by
      rcases ignored with none | count | high | narrow
      · exact .inl (State.device_of_noDevice none)
      · exact .inr (.inl (State.device_cpuCount count))
      · exact (State.device_of_wide high).elim (fun h => .inr (.inr (.inl h))) .inl
      · exact .inr (.inr (.inr narrow))
    rw [execOut_of_supervisor supervisor, State.ioWrite_ignored silent]
    rfl
  subst wide
  have out {x : Result} (answer : s.ioWrite (s.r 2) .b8 v = x) := execOut_of_answer supervisor answer
  refine ⟨fun h => ?pointer, fun h inactive => ?word, fun h zero => ?own, fun h => ?query⟩
  case pointer =>
    have write := State.ioWrite_loadPointer (v := v) present h
    exact ⟨fun disabled range => out (write.trans (State.writeLoadPointer_of_disabled disabled range)),
      fun undefined => out (write.trans (State.writeLoadPointer_of_undefined undefined))⟩
  case word =>
    intro invalid enables block slot mustBeZero legal
    have write := State.ioWrite_enableWord (v := v) present h
    refine ⟨fun bad => out (write.trans (State.writeEnableWord_of_invalid inactive bad)),
      fun valid keeps => out (write.trans (State.writeEnableWord_of_not_enabling inactive valid keeps)),
      fun valid enabling => ?_⟩
    have start {x : Except Trap (List Word)} (registers : s.startUpRegisters n = x) :
        exec (.ioOut .b8) s = finish s ((x >>= fun registers =>
          .ok { s with enableWord := s.enableWord.set n v, startUp := s.startUp.set n registers }) >>= fun t =>
            .ok (s.afterOut t)) := by
      rw [← registers]
      exact out (write.trans (State.writeEnableWord_of_enabling inactive valid enabling))
    have reserved (i : Nat) (hi : i < 256) : startUpReserved i = true ↔ mustBeZero i := startUpReserved_iff hi
    refine ⟨fun unreadable => start (State.startUpRegisters_of_unreadable unreadable), fun readable => ⟨?_, ?_⟩⟩
    · rintro ⟨i, must, nonzero⟩
      have hi : i < 256 := by simp only [mustBeZero] at must; omega
      exact start (State.startUpRegisters_of_reserved readable hi ((reserved i hi).mpr must) nonzero)
    · have decided (zero : ∀ i, mustBeZero i → slot i = 0) :=
        State.startUpRegisters_of_zero readable fun i hi h => zero i ((reserved i hi).mp h)
      have values := startUpValid_iff n.val slot
      exact ⟨fun zero illegal => start ((decided zero).trans (if_neg (mt values.mp illegal))),
        fun zero legal => start ((decided zero).trans (if_pos (values.mpr legal)))⟩
  case own =>
    have write := State.ioWrite_enableWord (v := v) present (by rw [zero]; exact h)
    exact ⟨fun low high => out (write.trans (State.writeEnableWord_zero zero low high)),
      fun other => out (write.trans (State.writeEnableWord_zero_of_undefined zero other))⟩
  case query =>
    have write := State.ioWrite_query (v := v) present h
    refine ⟨fun valid => ?_, fun i hi invalid first => ?_⟩
    · refine ⟨_, s.cpuInfoOf n.val, out (write.trans (State.queryCpuInfo_of_valid valid)), s.storedAt_query _ _, rfl,
        fun zero => if_pos zero, fun other => ?_⟩
      rw [State.cpuInfoOf, if_neg other]
      exact otherCpuInfo_spec n.val
    · obtain ⟨f, addr, fails⟩ := State.queryCpuInfo_of_invalid (k := n.val) hi invalid first
      exact ⟨f, addr, out (write.trans fails)⟩

end Sys2Proof.Machine
end
